-- ==== Sys2Proof/Word.lean ====
section
/-! DEFINITION. The byte of the control link, the four cams and one value per cam (00_scope.md,
"The engine setting", "Cams and cam sets"). -/

namespace Sys2Proof

/-- One byte of the SPI link (R161). -/
abbrev Byte := BitVec 8

/-- The four cams, by label. -/
inductive Cam where
  | fi | fe | ri | re
  deriving DecidableEq, Repr

/-- A cam's index on the link, 0 to 3. -/
def Cam.index : Cam → Nat
  | .fi => 0
  | .fe => 1
  | .ri => 2
  | .re => 3

/-- The cams in ascending order, the order of every list that holds one entry per cam. -/
def Cam.all : List Cam := [.fi, .fe, .ri, .re]

/-- One value for each cam. -/
structure PerCam (α : Type) where
  fi : α
  fe : α
  ri : α
  re : α
  deriving DecidableEq, Repr

/-- The value of one cam. -/
def PerCam.get {α : Type} (p : PerCam α) : Cam → α
  | .fi => p.fi
  | .fe => p.fe
  | .ri => p.ri
  | .re => p.re

/-- `p` with one cam's value replaced. -/
def PerCam.set {α : Type} (p : PerCam α) (c : Cam) (a : α) : PerCam α :=
  match c with
  | .fi => { p with fi := a }
  | .fe => { p with fe := a }
  | .ri => { p with ri := a }
  | .re => { p with re := a }

/-- The same value for every cam. -/
def PerCam.const {α : Type} (a : α) : PerCam α := ⟨a, a, a, a⟩

end Sys2Proof
end

