-- ==== Sys2Proof/Syntax.lean ====
section
/-! DEFINITION. The commands: one constructor per row of spec/opcode_table.json. The table gives the
rows no fields; an operand is what the event brings from outside the part. A request is carried by the
frame that CSN_RISE delivered to its owner (R163, R169), so its row has no operand of its own. An
instant is a count of ticks (0.1 µs) of the 10 MHz timebase (00_scope.md, "Time"). Log 1, log 4. -/

namespace Sys2Proof

/-- The polarity of an edge (CRANK_EDGE, EDGE; R2, R26). -/
inductive Edge where
  | rising | falling
  deriving DecidableEq, Repr

/-- The level of a pin. -/
inductive Level where
  | low | high
  deriving DecidableEq, Repr

/-- The part's steps. -/
inductive Instr where
  /-- POWER_ON (R171): power comes up at instant `t` with RSTN and PARKN at the levels given. -/
  | powerOn (rstn parkn : Level) (t : Nat)
  /-- RSTN (R171): the pin goes low. -/
  | rstn
  /-- READY_DELAY_EXPIRY (R171). -/
  | readyDelayExpiry (t : Nat)
  /-- CSN_FALL (R161). -/
  | csnFall
  /-- CSN_RISE (R161, R163): the level of SDI at each rising edge of SCK since the fall, in order, and the
  instant. -/
  | csnRise (sampled : List Bool) (t : Nat)
  /-- PROCESSING_COMPLETE (R166). -/
  | processingComplete (t : Nat)
  /-- NOP (R169). -/
  | nop
  /-- ENGINE_STATUS (R174). -/
  | engineStatus
  /-- CAM_STATUS (R175). -/
  | camStatus
  /-- NOTICE_READ (R177). -/
  | noticeRead
  /-- NOTICE_MASK (R178). -/
  | noticeMask
  /-- COUNTERS_READ (R180). -/
  | countersRead
  /-- POST (R52). -/
  | post
  /-- AMEND (R54). -/
  | amend
  /-- RENEW (R55). -/
  | renew
  /-- RETIRE (R56). -/
  | retire
  /-- RETIRE_OWNER (R57). -/
  | retireOwner
  /-- QUERY (R58). -/
  | query
  /-- SCAN (R59). -/
  | scan
  /-- LEARN (R113). -/
  | learn
  /-- CLEAR_FAULT (R112). -/
  | clearFault
  /-- CONFIG_WRITE (R151). -/
  | configWrite
  /-- CONFIG_READ (R152). -/
  | configRead
  /-- COMMIT (R156), taken at an instant: it starts the link timer and the PWM timebase. -/
  | commit (t : Nat)
  /-- REOPEN (R158). -/
  | reopen
  /-- SOFT_RESET (R172). -/
  | softReset
  /-- LINK_LOSS (R173): the link timer expires. -/
  | linkLoss (t : Nat)
  /-- CRK_EDGE (R3): an edge of CRK, its polarity and timestamp. -/
  | crkEdge (edge : Edge) (t : Nat)
  /-- STALL (R20): the stall timer expires. -/
  | stall (t : Nat)
  /-- WINDOW_CLOSE (R36): the angle clock passes the close angle of a cam's window by
  interpolation. -/
  | windowClose (cam : Cam) (window : Nat) (t : Nat)
  /-- CAM_EDGE (R26): an edge of CAMn, its polarity and timestamp. -/
  | camEdge (cam : Cam) (edge : Edge) (t : Nat)
  /-- OVERCURRENT (R141): the instantaneous current sensed on a channel, in mA. -/
  | overcurrent (cam : Cam) (current : Nat)
  /-- PWM_PERIOD_END (R137): the mean current sensed on each channel over the period, in mA. -/
  | pwmPeriodEnd (means : PerCam Nat) (t : Nat)
  /-- PARK_LINE_ASSERT (R145, R106): PARKN goes low; or, with the pin low already, the sequencers that have
  yet to take an assertion have an occasion to. Log 29. -/
  | parkLineAssert
  /-- PARKN_RISE (R146): PARKN goes high; or, with the pin high already, as PARK_LINE_ASSERT with it low. Log 29. -/
  | parknRise (t : Nat)
  /-- PARK_LINE_RELEASE (R146): PARKN has stayed high for 1 ms; or, with the line RELEASED already, as
  PARK_LINE_ASSERT with the pin low. Log 29. -/
  | parkLineRelease (t : Nat)
  /-- RSTN_RISE (R171): the pin goes high and the reset ends. -/
  | rstnRise (t : Nat)
  /-- DUTY_ELAPSED (R137): a channel's duty of the present period has elapsed. -/
  | dutyElapsed (cam : Cam) (t : Nat)
  deriving DecidableEq, Repr

end Sys2Proof
end

