-- ==== Sys2Proof/WellFormed.lean ====
section
/-! DEFINITION. The well-formed commands. The types already bound most operands (a cam is one of the
four, a byte has eight bits); what remains is a window's list position. -/

namespace Sys2Proof

/-- A window is named by its list position, 0 to 3 (section 2.1: "1 to 4 windows"). -/
def Instr.wellFormed : Instr → Bool
  | .windowClose _ j _ => decide (j < 4)
  | .powerOn _ _ _ | .rstn | .readyDelayExpiry _ | .csnFall | .csnRise _ _
  | .processingComplete _ | .nop | .engineStatus | .camStatus | .noticeRead | .noticeMask
  | .countersRead | .post | .amend | .renew | .retire | .retireOwner | .query | .scan | .learn
  | .clearFault | .configWrite | .configRead | .commit _ | .reopen | .softReset | .linkLoss _
  | .crkEdge _ _ | .stall _ | .camEdge _ _ _ | .overcurrent _ _ | .pwmPeriodEnd _ _
  | .parkLineAssert | .parknRise _ | .parkLineRelease _ | .rstnRise _ | .dutyElapsed _ _ => true

end Sys2Proof
end

