-- ==== Sys2Proof/Config.lean ====
section
/-! DEFINITION. The values the manual leaves open, each a constant with no body, so that nothing can
be proved of it: a claim holds whatever they are. What an implementation of the part fixes and a
program may set is not here but in the configuration store (`Machine/State.lean`). -/

namespace Sys2Proof.Config

/-- The duty the regulator would set for a cam, from the count of free values drawn. R138: "the duty
that the regulator sets for each period is not fixed". The meaning bounds it by what R138 states.
Log 9. -/
opaque dutyChoice : Nat → Cam → Nat

/-- The current sensed on a cam's channel, in mA, before a PWM period has been completed after a
reset, from the count of free values drawn. R148: "measured mean current as sensed". Log 10. -/
opaque sensedCurrent : Nat → Cam → Nat

/-- Whether a cam's sequencer lets an occasion to take an assertion of the park line pass, from the count of
free values drawn. R132: "The park line reaches the valve channels and the sequencers as separate events", and
no rule says how far apart they are. Log 29. -/
opaque laggingChoice : Nat → Cam → Bool

/-- The speed at a tooth whose pitch period T_p is 0, from TEETH: R12 divides by T_p and states no
result there. The meaning keeps R12's limit of 65,535. Log 7. -/
opaque speedOfZeroPitch : Nat → Nat

/-- The interpolated step of the angle clock when T_p is 0, from the ticks elapsed and the pitch P:
R13 divides by T_p and states no result there. The meaning keeps R13's hold limit. Log 8. -/
opaque clockStepOfZeroPitch : Nat → Nat → Nat

end Sys2Proof.Config
end

