-- ==== Sys2Proof/Machine/State.lean ====
section
/-! DEFINITION. The state of the D418: every piece of state the manual gives it, as plain data, the
reasons a step can stop, and the state right after a power-on reset. -/

namespace Sys2Proof.Machine

/-! ## Configuration store (08) -/

/-- The mode (R149). -/
inductive Mode where
  | config | run
  deriving DecidableEq, Repr

/-- A cam's travel direction (00_scope.md, "The engine setting"). -/
inductive Direction where
  | advance | retard
  deriving DecidableEq, Repr

/-- The global configuration items (section 8.2). -/
structure GlobalItems where
  teeth        : Nat
  missing      : Nat
  crankEdge    : Edge
  referenceCam : Cam
  stallMs      : Nat
  linkMs       : Nat
  releaseRpm   : Nat
  suppressRpm  : Nat
  pwmHz        : Nat
  learnLimit   : Nat
  counterWrap  : Bool
  deriving DecidableEq, Repr

/-- The configuration items of one cam (section 8.2). -/
structure CamItems where
  enable          : Bool
  direction       : Direction
  travel          : Nat
  margin          : Nat
  edge            : Edge
  windowCount     : Nat
  windowBase0     : Nat
  windowBase1     : Nat
  windowBase2     : Nat
  windowBase3     : Nat
  missLimit       : Nat
  parkBand        : Nat
  defaultTarget   : Nat
  holdCurrent     : Nat
  releaseCurrent  : Nat
  unlockThreshold : Nat
  unlockCycles    : Nat
  releaseLimit    : Nat
  kp              : Nat
  ki              : Nat
  ilim            : Nat
  imax            : Nat
  slew            : Nat
  trackErrLimit   : Nat
  trackErrCycles  : Nat
  deriving DecidableEq, Repr

/-- Every configuration item: 11 global values and 25 for each cam. -/
structure Items where
  global : GlobalItems
  cam    : PerCam CamItems
  deriving DecidableEq, Repr

/-! ## Crank tracker (01) -/

/-- Which revolution of the engine cycle the crank is in. -/
inductive Half where
  | first | second
  deriving DecidableEq, Repr

/-- What the tracker holds in SEEKING: the first teeth of a search (R6, R7, R10). The stall timer
counts from `lastTooth` (R20). -/
structure Search where
  lastTooth : Nat
  periods   : Nat
  period    : Option Nat
  pitch     : Option Nat
  prevPitch : Option Nat
  deriving DecidableEq, Repr

/-- What the tracker holds of the last accepted tooth in CRANK_SYNC and ENGINE_SYNC (R7, R8): its
time, from which the stall timer counts (R20), T, T_p, T_prev, its position and its angle. -/
structure Tooth where
  lastTooth : Nat
  period    : Nat
  pitch     : Nat
  prevPitch : Nat
  position  : Nat
  angle     : Nat
  deriving DecidableEq, Repr

/-- What the tracker holds in ENGINE_SYNC alone: the half (R9, R16), the angle from which the clock's
present motion counts (R16, R17), the per-cycle flags and the mismatch run (R18). -/
structure Cycle where
  half        : Half
  coveredFrom : Nat
  refHit      : Bool
  mismatch    : Bool
  mismatchRun : Nat
  deriving DecidableEq, Repr

/-- The sync state with what each state holds (section 1.3). -/
inductive Sync where
  | stopped
  | seeking (q : Search)
  | crankSync (k : Tooth)
  | engineSync (k : Tooth) (y : Cycle)
  deriving DecidableEq, Repr

/-- The crank tracker. -/
structure Tracker where
  sync  : Sync
  speed : Nat
  deriving DecidableEq, Repr

/-! ## Cam capture unit (02) -/

/-- One window of a lane's list (section 2.1): its geometry (R24), and of its present pass the hit flag
(R34), the late-start mark (R35) and whether its close has been taken since the last tooth (R17). -/
structure Window where
  base   : Nat
  start  : Nat
  width  : Nat
  hit    : Bool
  late   : Bool
  passed : Bool
  deriving DecidableEq, Repr

/-- One lane (section 2.1). `offset` is L. -/
structure Lane where
  windows : List Window
  missRun : Nat
  d       : Int
  dWindow : Nat
  valid   : Bool
  offset  : Int
  deriving DecidableEq, Repr

/-! ## Demand table (03) -/

/-- The class of a record (R45). -/
inductive Class where
  | override | blend | limit
  deriving DecidableEq, Repr

/-- The standings (section 3.3). -/
inductive Standing where
  | pending | winning | shadowed | contributing | binding | slack | conflicted | dormant | suppressed
  deriving DecidableEq, Repr

/-- A record's outcome for one cam (R48). -/
structure Outcome where
  standing : Standing
  clipped  : Bool
  deriving DecidableEq, Repr

/-- A demand record (section 3.2). Its slot is its place in the table and its generation the slot's.
`rank` is the priority or the weight, `first` the target or the floor, `second` the ceiling. `outcomes`
has one entry per cam of the cam set; the place of a cam outside the set holds `pending`, clear. -/
structure Record where
  owner     : Nat
  cams      : PerCam Bool
  cls       : Class
  rank      : Nat
  first     : Nat
  second    : Nat
  lifetime  : Nat
  remaining : Nat
  band      : Option (Nat × Nat)
  cap       : Option Nat
  outcomes  : PerCam Outcome
  deriving DecidableEq, Repr

/-- A slot of the table: its generation, and its record while it is occupied (R43). -/
structure Slot where
  generation : Nat
  record     : Option Record
  deriving DecidableEq, Repr

/-! ## Arbiter (04) -/

/-- What formed the base of the last result (section 4.1). -/
inductive Winner where
  | none | default | blend
  | handle (h : Nat)
  deriving DecidableEq, Repr

/-- One arbiter (section 4.1). `target` is E. `slewCap` is the cap of a winning override, if any: the
active slew is read from it and from the SLEW item (R70, R85). -/
structure Arbiter where
  target         : Nat
  winner         : Winner
  contributors   : Nat
  appliedFloor   : Nat
  appliedCeiling : Nat
  slewCap        : Option Nat
  speedUsed      : Nat
  suppressed     : Bool
  deriving DecidableEq, Repr

/-! ## Phaser sequencer (05) and position loop (06) -/

/-- The phaser state (R93). -/
inductive PhaserState where
  | disabled | parked | releasing | tracking | forced | fault
  deriving DecidableEq, Repr

/-- The causes of a cam's fault (R108). -/
inductive Cause where
  | signal | overcurrent | openLoad | stuck | following
  deriving DecidableEq, Repr

/-- A fault cause set (R108). -/
structure CauseSet where
  signal      : Bool
  overcurrent : Bool
  openLoad    : Bool
  stuck       : Bool
  following   : Bool
  deriving DecidableEq, Repr

/-- How the most recent learn ended (R115, R116). -/
inductive LearnResult where
  | none | done | failed | aborted
  deriving DecidableEq, Repr

/-- One phaser sequencer (section 5.1). -/
structure Sequencer where
  state        : PhaserState
  causes       : CauseSet
  releaseCount : Nat
  parkRun      : Nat
  errorRun     : Nat
  eventSeen    : Bool
  allOver      : Bool
  learning     : Bool
  samples      : Nat
  sum          : Int
  lastLearn    : LearnResult
  deriving DecidableEq, Repr

/-- One position loop (section 6.1): R, and the integrator in 1/64 mA. -/
structure Loop where
  ramped     : Nat
  integrator : Int
  deriving DecidableEq, Repr

/-! ## Valve channel (07) -/

/-- Whether a channel's switch is being modulated (R136). -/
inductive Output where
  | off | driven
  deriving DecidableEq, Repr

/-- A channel's latched driver fault (R144). -/
inductive Latch where
  | none | overcurrent | openLoad
  deriving DecidableEq, Repr

/-- The measured mean current (R138): in mA, or as sensed while no PWM period has been completed since
a reset (R148). -/
inductive MeanCurrent where
  | asSensed
  | measured (mA : Nat)
  deriving DecidableEq, Repr

/-- One valve channel (section 7.1). `duty` is in tenths of a percent. `switchClosed` is the output
pin OCVn. `wholePeriod`: the output has been DRIVEN since the present period began (R137, R142).
`starting`: the drive still keeps the full duty it started at (R138). -/
structure Channel where
  command      : Nat
  output       : Output
  duty         : Nat
  switchClosed : Bool
  mean         : MeanCurrent
  limited      : Bool
  latch        : Latch
  openLoadRun  : Nat
  wholePeriod  : Bool
  starting     : Bool
  deriving DecidableEq, Repr

/-- The recognised state of PARKN (R145, R146). -/
inductive ParkLine where
  | asserted | released
  deriving DecidableEq, Repr

/-- The running PWM timebase (R137): the instant of its start and the periods completed since. -/
structure Timebase where
  start   : Nat
  periods : Nat
  deriving DecidableEq, Repr

/-- Everything that exists once per cam. -/
structure CamState where
  lane    : Lane
  arbiter : Arbiter
  phaser  : Sequencer
  loop    : Loop
  channel : Channel
  deriving DecidableEq, Repr

/-! ## Link controller (09) -/

/-- The requests of R169. -/
inductive Request where
  | nop | engineStatus | camStatus | noticeRead | noticeMask | countersRead
  | post | amend | renew | retire | retireOwner | query | scan
  | learn | clearFault
  | configWrite | configRead | commit | reopen | softReset
  deriving DecidableEq, Repr

/-- The result codes of R165. -/
inductive Result where
  | ok | noEffect | unknown | badLength | badField | wrongMode | notReady | busy | stale | tableFull
  | configInvalid | crcError | frameError | late | resetMark
  deriving DecidableEq, Repr

/-- The three resets of R171. -/
inductive ResetCause where
  | powerOn | pin | soft
  deriving DecidableEq, Repr

/-- A response frame but for its LEN and CRC, which follow from it (R165). `summary` is formed when the
response is (R167); the RESET_MARK's is formed when the ready flag is set. -/
structure Response where
  echo    : Byte
  result  : Result
  summary : Option Byte
  payload : List Byte
  deriving DecidableEq, Repr

/-- What a transaction's processing has to answer (R166, R172): a response without its SUMMARY, or the
reset that a taken SOFT_RESET brings. -/
inductive Answer where
  | response (echo : Byte) (result : Result) (payload : List Byte)
  | softReset
  deriving DecidableEq, Repr

/-- A request delivered to its owner and not yet taken (R163, R169). -/
structure Delivered where
  request : Request
  payload : List Byte
  deriving DecidableEq, Repr

/-- CSN and the transaction in progress (R161, R168): CSN high, or low in a transaction that is
ignored whole, LATE with the response it clocks out, or open. -/
inductive Transaction where
  | idle
  | ignored
  | late (response : Response)
  | opened
  deriving DecidableEq, Repr

/-- What became of the pending response (R166). -/
inductive Delivery where
  | waiting | delivered | lost
  deriving DecidableEq, Repr

/-- The link controller (section 9.1). An instant stands for a running timer: of the end of the reset
(`readyFrom`, R171), of the rise being processed (`riseAt`, R166), of the last frame taken in RUN
(`timer`, R173). `clockedOut` is what SDO showed in the last transaction. -/
structure Link where
  ready       : Bool
  readyFrom   : Option Nat
  transaction : Transaction
  received    : List Byte
  clockedOut  : List Byte
  response    : Response
  delivery    : Delivery
  busy        : Bool
  riseAt      : Option Nat
  delivered   : Option Delivered
  answer      : Option Answer
  heldCause   : ResetCause
  timer       : Option Nat
  deriving DecidableEq, Repr

/-! ## Notice and counter unit (10) -/

/-- The 16-bit counters of one cam's group (section 10.3). -/
structure CamCounters where
  edges        : Nat
  stray        : Nat
  missed       : Nat
  halfMismatch : Nat
  faults       : Nat
  deriving DecidableEq, Repr

/-- The 31 counters (section 10.3). CYCLES has 32 bits, the others 16. -/
structure Counters where
  cycles        : Nat
  noiseRejects  : Nat
  gapErrors     : Nat
  phaseLosses   : Nat
  stalls        : Nat
  cam           : PerCam CamCounters
  crcErrors     : Nat
  frameErrors   : Nat
  lateFrames    : Nat
  linkLosses    : Nat
  lapsedDemands : Nat
  fullRefusals  : Nat
  deriving DecidableEq, Repr

/-! ## The machine -/

/-- The state of the part. `told`: the sequencers that have been told of an assertion of the park line and
have not yet taken it (R106, R132, R145; log 29). `pending` (the waiting commands), `now` (the latest
instant a command has carried), `fresh` (the free values drawn) and `lagging` (the sequencers that let the last
occasion to take an assertion pass, a free value drawn at each) are the model's own fields. Log 1, log 5, log 9, log 29. -/
structure State where
  mode          : Mode
  items         : Items
  tracker       : Tracker
  cams          : PerCam CamState
  table         : List Slot
  parkLine      : ParkLine
  qualification : Option Nat
  told          : PerCam Bool
  timebase      : Option Timebase
  link          : Link
  notices       : BitVec 16
  mask          : BitVec 16
  counters      : Counters
  rstn          : Level
  parkn         : Level
  now           : Nat
  fresh         : Nat
  lagging       : PerCam Bool
  pending       : List Instr
  deriving DecidableEq, Repr

/-- Why the machine stops. -/
inductive Fault where
  /-- Raised by CAM_EDGE when both candidates of a phase resolution lie in reference windows. R15: the
  case "does not arise in RUN", since COMMIT refuses such windows, and the rule gives no effect for it.
  Safe: the model stops where it has no rule to follow. Log 13. -/
  | ambiguousHalf
  deriving DecidableEq, Repr

/-- Why a command has no meaning. -/
inductive Refusal where
  /-- Raised by `exec` alone, for a row without a meaning yet; no arm answers it. Safe. -/
  | notModelled (mnemonic : String)
  deriving DecidableEq, Repr

/-! ## The state right after a power-on reset -/

/-- The global items' reset values (section 8.2, R160). -/
def GlobalItems.reset : GlobalItems where
  teeth := 24
  missing := 2
  crankEdge := .rising
  referenceCam := .fi
  stallMs := 200
  linkMs := 50
  releaseRpm := 1500
  suppressRpm := 1200
  pwmHz := 250
  learnLimit := 48
  counterWrap := false

/-- A cam's items' reset values (section 8.2, R160), but for DIRECTION, which differs by cam. -/
def CamItems.reset (direction : Direction) : CamItems where
  enable := false
  direction := direction
  travel := 800
  margin := 64
  edge := .rising
  windowCount := 0
  windowBase0 := 0
  windowBase1 := 0
  windowBase2 := 0
  windowBase3 := 0
  missLimit := 4
  parkBand := 16
  defaultTarget := 0
  holdCurrent := 500
  releaseCurrent := 900
  unlockThreshold := 32
  unlockCycles := 3
  releaseLimit := 16
  kp := 64
  ki := 8
  ilim := 400
  imax := 1200
  slew := 24
  trackErrLimit := 160
  trackErrCycles := 8

/-- Every item at its reset value (R160). -/
def Items.reset : Items where
  global := .reset
  cam := ⟨.reset .advance, .reset .retard, .reset .advance, .reset .retard⟩

/-- A lane after a reset (R42). -/
def Lane.reset : Lane where
  windows := []
  missRun := 0
  d := 0
  dWindow := 0
  valid := false
  offset := 0

/-- An arbiter after a reset: the cleared result, and the suppression flag set (R70). -/
def Arbiter.reset : Arbiter where
  target := 0
  winner := .none
  contributors := 0
  appliedFloor := 0
  appliedCeiling := 2047
  slewCap := none
  speedUsed := 0
  suppressed := true

/-- The empty fault cause set. -/
def CauseSet.empty : CauseSet := ⟨false, false, false, false, false⟩

/-- A sequencer after a reset (R119). -/
def Sequencer.reset : Sequencer where
  state := .disabled
  causes := .empty
  releaseCount := 0
  parkRun := 0
  errorRun := 0
  eventSeen := false
  allOver := true
  learning := false
  samples := 0
  sum := 0
  lastLearn := .none

/-- A position loop after a reset (R133). -/
def Loop.reset : Loop where
  ramped := 0
  integrator := 0

/-- A valve channel after a reset (R148). -/
def Channel.reset : Channel where
  command := 0
  output := .off
  duty := 0
  switchClosed := false
  mean := .asSensed
  limited := false
  latch := .none
  openLoadRun := 0
  wholePeriod := false
  starting := false

/-- A cam's blocks after a reset. -/
def CamState.reset : CamState where
  lane := .reset
  arbiter := .reset
  phaser := .reset
  loop := .reset
  channel := .reset

/-- A free slot of generation 0 (R69). -/
def Slot.reset : Slot where
  generation := 0
  record := none

/-- The RESET_MARK's payload: the code of the cause (R171). -/
def ResetCause.code : ResetCause → Byte
  | .powerOn => 0
  | .pin => 1
  | .soft => 2

/-- The RESET_MARK response of a reset, its SUMMARY not yet formed (R171). -/
def Response.resetMark (cause : ResetCause) : Response where
  echo := 0x00
  result := .resetMark
  summary := none
  payload := [cause.code]

/-- The link controller after a reset that has just ended at an instant, if it has (R171). -/
def Link.reset (cause : ResetCause) (ended : Option Nat) (transaction : Transaction) : Link where
  ready := false
  readyFrom := ended
  transaction := transaction
  received := []
  clockedOut := []
  response := .resetMark cause
  delivery := .waiting
  busy := false
  riseAt := none
  delivered := none
  answer := none
  heldCause := cause
  timer := none

/-- One cam's counters at 0. -/
def CamCounters.reset : CamCounters := ⟨0, 0, 0, 0, 0⟩

/-- Every counter at 0 (R181). -/
def Counters.reset : Counters where
  cycles := 0
  noiseRejects := 0
  gapErrors := 0
  phaseLosses := 0
  stalls := 0
  cam := .const .reset
  crcErrors := 0
  frameErrors := 0
  lateFrames := 0
  linkLosses := 0
  lapsedDemands := 0
  fullRefusals := 0

/-- The part as its power-on reset ends, at instant 0, with RSTN, PARKN and CSN high and no command
waiting (R22, R42, R69, R70, R119, R133, R148, R160, R171, R181; log 6). -/
def State.reset : State where
  mode := .config
  items := .reset
  tracker := ⟨.stopped, 0⟩
  cams := .const .reset
  table := List.replicate 32 .reset
  parkLine := .released
  qualification := none
  told := .const false
  timebase := none
  link := .reset .powerOn (some 0) .idle
  notices := 0x0001
  mask := 0xFFFF
  counters := .reset
  rstn := .high
  parkn := .high
  now := 0
  fresh := 0
  lagging := .const false
  pending := []

end Sys2Proof.Machine
end

