-- ==== Sys2Proof/Machine/Ops.lean ====
section
/-! DEFINITION. The named operations every block uses: one cam's blocks, the counters (R179), the
instants that commands carry, and the free values. -/

namespace Sys2Proof.Machine

/-! ## One cam -/

/-- The blocks of one cam. -/
def State.cam (s : State) (c : Cam) : CamState := s.cams.get c

/-- The configuration items of one cam. -/
def State.cfg (s : State) (c : Cam) : CamItems := s.items.cam.get c

/-- `s` with one cam's blocks replaced. -/
def State.setCam (s : State) (c : Cam) (k : CamState) : State := { s with cams := s.cams.set c k }

/-- `s` after the same operation on each cam, in ascending order. -/
def State.eachCam (s : State) (f : Cam → State → State) : State := Cam.all.foldl (fun u c => f c u) s

/-- A cam was enabled at the most recent COMMIT, that is, its phaser state is anything other than
DISABLED (R23). -/
def State.enabled (s : State) (c : Cam) : Bool := decide ((s.cam c).phaser.state ≠ .disabled)

/-! ## Counters (10.3) -/

/-- The counters of one cam's group. -/
inductive CamCounter where
  | edges | stray | missed | halfMismatch | faults
  deriving DecidableEq, Repr

/-- The thirty 16-bit counters. -/
inductive Counter where
  | noiseRejects | gapErrors | phaseLosses | stalls
  | ofCam (c : Cam) (k : CamCounter)
  | crcErrors | frameErrors | lateFrames | linkLosses | lapsedDemands | fullRefusals
  deriving DecidableEq, Repr

/-- One counter of a cam's group. -/
def CamCounters.get (k : CamCounters) : CamCounter → Nat
  | .edges => k.edges
  | .stray => k.stray
  | .missed => k.missed
  | .halfMismatch => k.halfMismatch
  | .faults => k.faults

/-- A cam's group with one counter replaced. -/
def CamCounters.put (k : CamCounters) (i : CamCounter) (n : Nat) : CamCounters :=
  match i with
  | .edges => { k with edges := n }
  | .stray => { k with stray := n }
  | .missed => { k with missed := n }
  | .halfMismatch => { k with halfMismatch := n }
  | .faults => { k with faults := n }

/-- The value of a counter. -/
def Counters.get (k : Counters) : Counter → Nat
  | .noiseRejects => k.noiseRejects
  | .gapErrors => k.gapErrors
  | .phaseLosses => k.phaseLosses
  | .stalls => k.stalls
  | .ofCam c i => (k.cam.get c).get i
  | .crcErrors => k.crcErrors
  | .frameErrors => k.frameErrors
  | .lateFrames => k.lateFrames
  | .linkLosses => k.linkLosses
  | .lapsedDemands => k.lapsedDemands
  | .fullRefusals => k.fullRefusals

/-- The counters with one replaced. -/
def Counters.put (k : Counters) (i : Counter) (n : Nat) : Counters :=
  match i with
  | .noiseRejects => { k with noiseRejects := n }
  | .gapErrors => { k with gapErrors := n }
  | .phaseLosses => { k with phaseLosses := n }
  | .stalls => { k with stalls := n }
  | .ofCam c i => { k with cam := k.cam.set c ((k.cam.get c).put i n) }
  | .crcErrors => { k with crcErrors := n }
  | .frameErrors => { k with frameErrors := n }
  | .lateFrames => { k with lateFrames := n }
  | .linkLosses => { k with linkLosses := n }
  | .lapsedDemands => { k with lapsedDemands := n }
  | .fullRefusals => { k with fullRefusals := n }

/-- A 16-bit counter after one increment, under COUNTER_WRAP (R179). -/
def counterNext (wrap : Bool) (n : Nat) : Nat :=
  if n < 65535 then n + 1 else if wrap then 0 else 65535

/-- One increment of a counter, reading COUNTER_WRAP as it stands (R179). -/
def State.count (s : State) (k : Counter) : State :=
  { s with counters := s.counters.put k (counterNext s.items.global.counterWrap (s.counters.get k)) }

/-- One increment for each of `n` like events. -/
def State.countTimes (s : State) (k : Counter) : Nat → State
  | 0 => s
  | n + 1 => (s.count k).countTimes k n

/-- CYCLES after one cycle mark: 32 bits, wrapping whatever COUNTER_WRAP says (R11, R179). -/
def State.countCycle (s : State) : State :=
  { s with counters := { s.counters with cycles := (s.counters.cycles + 1) % 4294967296 } }

/-! ## Instants -/

/-- An event at instant `t`. Instants never run backwards: a command whose instant lies before one
already taken is no event of the part, and nothing changes. Log 1. -/
def State.at (s : State) (t : Nat) (event : State → State) : State :=
  if t < s.now then s else event { s with now := t }

/-- A timer that has run since `start` for `ticks` ticks has expired at instant `t`. Log 3. -/
def expired (start ticks t : Nat) : Bool := decide (start + ticks ≤ t)

/-- Ticks in a number of milliseconds: 10,000 each (00_scope.md, "Time"). -/
def msTicks (ms : Nat) : Nat := ms * 10000

/-- The count of free values drawn, advanced by one. Log 9. -/
def State.draw (s : State) : State := { s with fresh := s.fresh + 1 }

/-- The sequencers that let an occasion to take an assertion of the park line pass, drawn anew as a free value
(R132; log 29). -/
def State.drawLagging (s : State) : State :=
  { s.draw with lagging :=
    ⟨Config.laggingChoice s.fresh .fi, Config.laggingChoice s.fresh .fe,
      Config.laggingChoice s.fresh .ri, Config.laggingChoice s.fresh .re⟩ }

end Sys2Proof.Machine
end

