-- ==== Sys2Proof/Machine/Flags.lean ====
section
/-! DEFINITION. The notice flags, the mask and ATTN (section 10.2), and the SUMMARY byte (R165, R167). -/

namespace Sys2Proof.Machine

/-- The sixteen notices (R176). -/
inductive Notice where
  | reset | engineSynced | syncLost | engineStopped | demandLapsed | linkLost | limitConflict | parkLine
  | phaserFault (c : Cam)
  | learnEnded (c : Cam)
  deriving DecidableEq, Repr

/-- A notice's bit (R176). -/
def Notice.bit : Notice → Nat
  | .reset => 0
  | .engineSynced => 1
  | .syncLost => 2
  | .engineStopped => 3
  | .demandLapsed => 4
  | .linkLost => 5
  | .limitConflict => 6
  | .parkLine => 7
  | .phaserFault c => 8 + c.index
  | .learnEnded c => 12 + c.index

/-- Set a notice flag; one already set stays set (R176). -/
def State.notify (s : State) (n : Notice) : State :=
  { s with notices := s.notices ||| BitVec.twoPow 16 n.bit }

/-- A notice flag stands set. -/
def State.noticeSet (s : State) (n : Notice) : Bool := s.notices.getLsbD n.bit

/-- A flag is set whose mask bit is enabled (R178). -/
def State.noticePending (s : State) : Bool := decide (s.notices &&& s.mask ≠ 0#16)

/-- The ATTN pin is driven low: a notice is pending, and the part is not held in reset (R178). -/
def State.attnLow (s : State) : Bool := decide (s.rstn = .high) && s.noticePending

/-- The code of a mode (R165, R182). -/
def Mode.code : Mode → Nat
  | .config => 0
  | .run => 1

/-- The code of a sync state (R165, R182). -/
def Sync.code : Sync → Nat
  | .stopped => 0
  | .seeking _ => 1
  | .crankSync _ => 2
  | .engineSync _ _ => 3

/-- The code of the park line state (R165, R182). -/
def ParkLine.code : ParkLine → Nat
  | .released => 0
  | .asserted => 1

/-- The SUMMARY byte as the state stands (R165, R167): bit 0 the mode, bits 2 to 1 the sync state,
bit 3 the park line state, bit 4 a pending notice, bits 7 to 5 zero. -/
def State.summary (s : State) : Byte :=
  BitVec.ofNat 8
    (s.mode.code + 2 * s.tracker.sync.code + 8 * s.parkLine.code + 16 * s.noticePending.toNat)

end Sys2Proof.Machine
end

