-- ==== Sys2Proof/Machine/Operands.lean ====
section
/-! DEFINITION. Every operand form on the link (section 9.6, R162 to R165, R169, R170, R182): multi-byte
fields, the CRC, response frames, request and result codes, cam indexes and cam sets, and the item
references of section 8.2 with their ranges (R150). -/

namespace Sys2Proof.Machine

/-! ## Bytes -/

/-- One byte of a value that fits it. -/
def u8 (n : Nat) : Byte := BitVec.ofNat 8 n

/-- Two bytes of a value, most significant first (R170). -/
def be16 (n : Nat) : List Byte := [u8 (n / 256), u8 n]

/-- Four bytes of a value, most significant first (R170). -/
def be32 (n : Nat) : List Byte := [u8 (n / 16777216), u8 (n / 65536), u8 (n / 256), u8 n]

/-- Two bytes of a signed value, two's complement, most significant first (R170). -/
def be16s (i : Int) : List Byte := be16 (i % 65536).toNat

/-- The value of two bytes, most significant first (R170). -/
def fromBe16 (hi lo : Byte) : Nat := hi.toNat * 256 + lo.toNat

/-- The byte that eight clocks bring, most significant bit first (R161). -/
def byteOfBits (b7 b6 b5 b4 b3 b2 b1 b0 : Bool) : Byte :=
  u8 (128 * b7.toNat + 64 * b6.toNat + 32 * b5.toNat + 16 * b4.toNat + 8 * b3.toNat + 4 * b2.toNat
    + 2 * b1.toNat + b0.toNat)

/-- The bytes that the levels sampled on SDI bring: each group of eight clocks is one byte, and clocks that
do not complete a byte are disregarded (R161). -/
def assemble : List Bool → List Byte
  | b7 :: b6 :: b5 :: b4 :: b3 :: b2 :: b1 :: b0 :: rest => byteOfBits b7 b6 b5 b4 b3 b2 b1 b0 :: assemble rest
  | _ => []

/-! ## CRC (R164) -/

/-- One bit fed into the CRC register: shift left, and exclusive-or 0x2F if the register's top bit and
the data bit differed. -/
def crcBit (reg : Byte) (bit : Bool) : Byte :=
  if reg.msb = bit then reg <<< 1 else (reg <<< 1) ^^^ 0x2F#8

/-- One byte fed in, most significant bit first. -/
def crcByte (reg : Byte) (b : Byte) : Byte :=
  [7, 6, 5, 4, 3, 2, 1, 0].foldl (fun r i => crcBit r (b.getLsbD i)) reg

/-- The CRC-8 of the covered bytes, from the initial value 0xFF. -/
def crc8 (bytes : List Byte) : Byte := bytes.foldl crcByte 0xFF#8

/-! ## Requests and results -/

/-- A request's CMD code (R169). -/
def Request.code : Request → Byte
  | .nop => 0x01
  | .engineStatus => 0x02
  | .camStatus => 0x03
  | .noticeRead => 0x04
  | .noticeMask => 0x05
  | .countersRead => 0x06
  | .post => 0x10
  | .amend => 0x11
  | .renew => 0x12
  | .retire => 0x13
  | .retireOwner => 0x14
  | .query => 0x15
  | .scan => 0x16
  | .learn => 0x20
  | .clearFault => 0x21
  | .configWrite => 0x30
  | .configRead => 0x31
  | .commit => 0x32
  | .reopen => 0x33
  | .softReset => 0x3F

/-- Every request of R169's table. -/
def Request.all : List Request :=
  [.nop, .engineStatus, .camStatus, .noticeRead, .noticeMask, .countersRead, .post, .amend, .renew,
   .retire, .retireOwner, .query, .scan, .learn, .clearFault, .configWrite, .configRead, .commit,
   .reopen, .softReset]

/-- The request a CMD names, if it is in R169's table. -/
def Request.ofCode (b : Byte) : Option Request := Request.all.find? (fun r => r.code == b)

/-- A RESULT code (R165). -/
def Result.code : Result → Byte
  | .ok => 0x00
  | .noEffect => 0x01
  | .unknown => 0x02
  | .badLength => 0x03
  | .badField => 0x04
  | .wrongMode => 0x05
  | .notReady => 0x06
  | .busy => 0x07
  | .stale => 0x08
  | .tableFull => 0x09
  | .configInvalid => 0x0A
  | .crcError => 0x0B
  | .frameError => 0x0C
  | .late => 0x0D
  | .resetMark => 0x0E

/-- A response frame byte by byte (R165): ECHO, RESULT, SUMMARY, LEN, payload, CRC. A SUMMARY not yet
formed stands as 0; such a response is never clocked out, since only a RESET_MARK before the ready
flag lacks it (R161, R167; log 17). -/
def Response.bytes (r : Response) : List Byte :=
  let body := [r.echo, r.result.code, r.summary.getD 0, u8 r.payload.length] ++ r.payload
  body ++ [crc8 body]

/-! ## Cams -/

/-- The cam an index names (00_scope.md, "Cams and cam sets"). -/
def camOfIndex : Nat → Option Cam
  | 0 => some .fi
  | 1 => some .fe
  | 2 => some .ri
  | 3 => some .re
  | _ => none

/-- The cam set a byte holds: bit n stands for cam n (R170). -/
def camSetOf (b : Byte) : PerCam Bool := ⟨b.getLsbD 0, b.getLsbD 1, b.getLsbD 2, b.getLsbD 3⟩

/-- The byte of a set of cams: bit n for cam n, bits 7 to 4 zero (R170, R182). -/
def camSetByte (p : PerCam Bool) : Byte :=
  u8 (p.fi.toNat + 2 * p.fe.toNat + 4 * p.ri.toNat + 8 * p.re.toNat)

/-- The class a code names; any other value is a class out of range (R170). -/
def Class.ofCode : Nat → Option Class
  | 0 => some .override
  | 1 => some .blend
  | 2 => some .limit
  | _ => none

/-- A class's code (R170). -/
def Class.code : Class → Nat
  | .override => 0
  | .blend => 1
  | .limit => 2

/-- A standing's code (R170). -/
def Standing.code : Standing → Nat
  | .pending => 0
  | .winning => 1
  | .shadowed => 2
  | .contributing => 3
  | .binding => 4
  | .slack => 5
  | .conflicted => 6
  | .dormant => 7
  | .suppressed => 8

/-- The outcome byte of QUERY: the standing in bits 3 to 0, the clipped flag in bit 7 (R170). -/
def Outcome.byte (o : Outcome) : Byte := u8 (o.standing.code + 128 * o.clipped.toNat)

/-! ## Configuration items (section 8.2) -/

/-- The global items. -/
inductive GlobalItem where
  | teeth | missing | crankEdge | referenceCam | stallMs | linkMs | releaseRpm | suppressRpm | pwmHz
  | learnLimit | counterWrap
  deriving DecidableEq, Repr

/-- The per-cam items. -/
inductive CamItem where
  | enable | direction | travel | margin | edge | windowCount
  | windowBase0 | windowBase1 | windowBase2 | windowBase3
  | missLimit | parkBand | defaultTarget | holdCurrent | releaseCurrent | unlockThreshold
  | unlockCycles | releaseLimit | kp | ki | ilim | imax | slew | trackErrLimit | trackErrCycles
  deriving DecidableEq, Repr

/-- A well-formed item reference (R150). -/
inductive ItemRef where
  | global (i : GlobalItem)
  | ofCam (i : CamItem) (c : Cam)
  deriving DecidableEq, Repr

/-- A global item's number. -/
def GlobalItem.number : GlobalItem → Nat
  | .teeth => 0x00
  | .missing => 0x01
  | .crankEdge => 0x02
  | .referenceCam => 0x03
  | .stallMs => 0x04
  | .linkMs => 0x05
  | .releaseRpm => 0x06
  | .suppressRpm => 0x07
  | .pwmHz => 0x08
  | .learnLimit => 0x09
  | .counterWrap => 0x0A

/-- A per-cam item's number. -/
def CamItem.number : CamItem → Nat
  | .enable => 0x10
  | .direction => 0x11
  | .travel => 0x12
  | .margin => 0x13
  | .edge => 0x14
  | .windowCount => 0x15
  | .windowBase0 => 0x16
  | .windowBase1 => 0x17
  | .windowBase2 => 0x18
  | .windowBase3 => 0x19
  | .missLimit => 0x1A
  | .parkBand => 0x1B
  | .defaultTarget => 0x1C
  | .holdCurrent => 0x1D
  | .releaseCurrent => 0x1E
  | .unlockThreshold => 0x1F
  | .unlockCycles => 0x20
  | .releaseLimit => 0x21
  | .kp => 0x22
  | .ki => 0x23
  | .ilim => 0x24
  | .imax => 0x25
  | .slew => 0x26
  | .trackErrLimit => 0x27
  | .trackErrCycles => 0x28

/-- Every global item. -/
def GlobalItem.all : List GlobalItem :=
  [.teeth, .missing, .crankEdge, .referenceCam, .stallMs, .linkMs, .releaseRpm, .suppressRpm, .pwmHz,
   .learnLimit, .counterWrap]

/-- Every per-cam item. -/
def CamItem.all : List CamItem :=
  [.enable, .direction, .travel, .margin, .edge, .windowCount, .windowBase0, .windowBase1,
   .windowBase2, .windowBase3, .missLimit, .parkBand, .defaultTarget, .holdCurrent, .releaseCurrent,
   .unlockThreshold, .unlockCycles, .releaseLimit, .kp, .ki, .ilim, .imax, .slew, .trackErrLimit,
   .trackErrCycles]

/-- The item reference two bytes name, if it is well formed (R150): a global item with cam index 0, or
a per-cam item with cam index 0 to 3. -/
def ItemRef.ofBytes (item cam : Byte) : Option ItemRef :=
  match GlobalItem.all.find? (fun i => i.number == item.toNat) with
  | some i => if cam.toNat = 0 then some (.global i) else none
  | none =>
    match CamItem.all.find? (fun i => i.number == item.toNat), camOfIndex cam.toNat with
    | some i, some c => some (.ofCam i c)
    | _, _ => none

/-- A value lies in a range, both ends inclusive. -/
def inRange (lo hi v : Nat) : Bool := decide (lo ≤ v ∧ v ≤ hi)

/-- A value is lawful for a global item (R150, section 8.2). -/
def GlobalItem.lawful (v : Nat) : GlobalItem → Bool
  | .teeth => [12, 24, 36, 48, 60].contains v
  | .missing => inRange 1 2 v
  | .crankEdge => inRange 0 1 v
  | .referenceCam => inRange 0 3 v
  | .stallMs => inRange 50 1000 v && v % 10 == 0
  | .linkMs => inRange 10 250 v
  | .releaseRpm => inRange 300 8000 v
  | .suppressRpm => inRange 200 7900 v
  | .pwmHz => inRange 100 500 v && v % 10 == 0
  | .learnLimit => inRange 0 160 v
  | .counterWrap => inRange 0 1 v

/-- A value is lawful for a per-cam item (R150, section 8.2). -/
def CamItem.lawful (v : Nat) : CamItem → Bool
  | .enable | .direction | .edge => inRange 0 1 v
  | .travel => inRange 16 1280 v
  | .margin => inRange 0 160 v
  | .windowCount => inRange 0 4 v
  | .windowBase0 | .windowBase1 | .windowBase2 | .windowBase3 => inRange 0 11519 v
  | .missLimit => inRange 1 15 v
  | .parkBand | .unlockThreshold | .ki => inRange 0 255 v
  | .defaultTarget => inRange 0 2047 v
  | .holdCurrent | .releaseCurrent | .ilim => inRange 0 1500 v
  | .unlockCycles => inRange 0 31 v
  | .releaseLimit | .trackErrCycles => inRange 1 63 v
  | .kp => inRange 0 1023 v
  | .imax => inRange 100 1500 v
  | .slew => inRange 1 255 v
  | .trackErrLimit => inRange 0 511 v

/-- A value is lawful for the item a reference names. -/
def ItemRef.lawful (v : Nat) : ItemRef → Bool
  | .global i => i.lawful v
  | .ofCam i _ => i.lawful v

/-- rising is 0 and falling is 1 (section 8.2). -/
def edgeCode : Edge → Nat
  | .rising => 0
  | .falling => 1

/-- The polarity a number names (section 8.2). -/
def edgeOfCode (v : Nat) : Edge := if v = 0 then .rising else .falling

/-- ADVANCE is 0 and RETARD is 1 (section 8.2). -/
def Direction.code : Direction → Nat
  | .advance => 0
  | .retard => 1

/-- The direction a number names (section 8.2). -/
def Direction.ofCode (v : Nat) : Direction := if v = 0 then .advance else .retard

/-- The value of a global item, as a number. -/
def GlobalItems.read (g : GlobalItems) : GlobalItem → Nat
  | .teeth => g.teeth
  | .missing => g.missing
  | .crankEdge => edgeCode g.crankEdge
  | .referenceCam => g.referenceCam.index
  | .stallMs => g.stallMs
  | .linkMs => g.linkMs
  | .releaseRpm => g.releaseRpm
  | .suppressRpm => g.suppressRpm
  | .pwmHz => g.pwmHz
  | .learnLimit => g.learnLimit
  | .counterWrap => g.counterWrap.toNat

/-- The global items with one set to a lawful value. -/
def GlobalItems.write (g : GlobalItems) (v : Nat) : GlobalItem → GlobalItems
  | .teeth => { g with teeth := v }
  | .missing => { g with missing := v }
  | .crankEdge => { g with crankEdge := edgeOfCode v }
  | .referenceCam => { g with referenceCam := (camOfIndex v).getD .fi }
  | .stallMs => { g with stallMs := v }
  | .linkMs => { g with linkMs := v }
  | .releaseRpm => { g with releaseRpm := v }
  | .suppressRpm => { g with suppressRpm := v }
  | .pwmHz => { g with pwmHz := v }
  | .learnLimit => { g with learnLimit := v }
  | .counterWrap => { g with counterWrap := decide (v ≠ 0) }

/-- The value of a per-cam item, as a number. -/
def CamItems.read (k : CamItems) : CamItem → Nat
  | .enable => k.enable.toNat
  | .direction => k.direction.code
  | .travel => k.travel
  | .margin => k.margin
  | .edge => edgeCode k.edge
  | .windowCount => k.windowCount
  | .windowBase0 => k.windowBase0
  | .windowBase1 => k.windowBase1
  | .windowBase2 => k.windowBase2
  | .windowBase3 => k.windowBase3
  | .missLimit => k.missLimit
  | .parkBand => k.parkBand
  | .defaultTarget => k.defaultTarget
  | .holdCurrent => k.holdCurrent
  | .releaseCurrent => k.releaseCurrent
  | .unlockThreshold => k.unlockThreshold
  | .unlockCycles => k.unlockCycles
  | .releaseLimit => k.releaseLimit
  | .kp => k.kp
  | .ki => k.ki
  | .ilim => k.ilim
  | .imax => k.imax
  | .slew => k.slew
  | .trackErrLimit => k.trackErrLimit
  | .trackErrCycles => k.trackErrCycles

/-- A cam's items with one set to a lawful value. -/
def CamItems.write (k : CamItems) (v : Nat) : CamItem → CamItems
  | .enable => { k with enable := decide (v ≠ 0) }
  | .direction => { k with direction := .ofCode v }
  | .travel => { k with travel := v }
  | .margin => { k with margin := v }
  | .edge => { k with edge := edgeOfCode v }
  | .windowCount => { k with windowCount := v }
  | .windowBase0 => { k with windowBase0 := v }
  | .windowBase1 => { k with windowBase1 := v }
  | .windowBase2 => { k with windowBase2 := v }
  | .windowBase3 => { k with windowBase3 := v }
  | .missLimit => { k with missLimit := v }
  | .parkBand => { k with parkBand := v }
  | .defaultTarget => { k with defaultTarget := v }
  | .holdCurrent => { k with holdCurrent := v }
  | .releaseCurrent => { k with releaseCurrent := v }
  | .unlockThreshold => { k with unlockThreshold := v }
  | .unlockCycles => { k with unlockCycles := v }
  | .releaseLimit => { k with releaseLimit := v }
  | .kp => { k with kp := v }
  | .ki => { k with ki := v }
  | .ilim => { k with ilim := v }
  | .imax => { k with imax := v }
  | .slew => { k with slew := v }
  | .trackErrLimit => { k with trackErrLimit := v }
  | .trackErrCycles => { k with trackErrCycles := v }

/-- The present value of an item. -/
def Items.read (x : Items) : ItemRef → Nat
  | .global i => x.global.read i
  | .ofCam i c => (x.cam.get c).read i

/-- The items with one set to a lawful value (R151). -/
def Items.write (x : Items) (v : Nat) : ItemRef → Items
  | .global i => { x with global := x.global.write v i }
  | .ofCam i c => { x with cam := x.cam.set c ((x.cam.get c).write v i) }

end Sys2Proof.Machine
end

