-- ==== Sys2Proof/Machine/Table.lean ====
section
/-! DEFINITION. The demand table's operations (03): slots, handles, retirement, the countdown and the
writes of outcomes. The requests that reach the table stand in `Machine/Demands.lean`. -/

namespace Sys2Proof.Machine

/-- The outcome every entry starts with: PENDING, clipped clear (R48). -/
def Outcome.fresh : Outcome := ⟨.pending, false⟩

/-- A handle: 32 × generation + slot (R44). -/
def handleOf (slot generation : Nat) : Nat := 32 * generation + slot

/-- The record a handle names, if the handle is not stale: its slot is occupied and its generation is
the slot's (R44). -/
def lookup (t : List Slot) (h : Nat) : Option Record :=
  match t[h % 32]? with
  | some x => if x.generation = h / 32 then x.record else none
  | none => none

/-- The lowest-numbered free slot (R43, R52). -/
def lowestFree (t : List Slot) : Option Nat := t.findIdx? (fun x => x.record.isNone)

/-- The table with the record in a slot replaced. -/
def putRecord (t : List Slot) (slot : Nat) (r : Record) : List Slot :=
  t.modify slot (fun x => { x with record := some r })

/-- Retirement of a slot's record (R49): the slot is free and its generation advanced by 1, from 7 to
0. A free slot is left as it is. -/
def Slot.retire (x : Slot) : Slot :=
  match x.record with
  | some _ => ⟨(x.generation + 1) % 8, none⟩
  | none => x

/-- The slot holds a live record of which `p` holds. -/
def Slot.holds (p : Record → Bool) (x : Slot) : Bool := x.record.any p

/-- Retirement of every live record of which `p` holds, in one event (R49). -/
def retireWhere (p : Record → Bool) (t : List Slot) : List Slot :=
  t.map (fun x => if x.holds p then x.retire else x)

/-- Retirement of every live record: a purge (R63, R64). -/
def purge (t : List Slot) : List Slot := t.map Slot.retire

/-- The record lapses at the next cycle mark: it is counted and its remaining reaches 0 (R60). -/
def Record.lapses (r : Record) : Bool := decide (r.lifetime ≠ 0 ∧ r.remaining ≤ 1)

/-- A live record that does not lapse, after a cycle mark: counted down unless it is standing (R60). -/
def Record.countDown (r : Record) : Record :=
  if r.lifetime = 0 then r else { r with remaining := r.remaining - 1 }

/-- A slot after a cycle mark (R60). -/
def Slot.countDown (x : Slot) : Slot :=
  match x.record with
  | some r => if r.lapses then x.retire else { x with record := some r.countDown }
  | none => x

/-- How many records lapse at the next cycle mark. -/
def lapsing (t : List Slot) : Nat := t.countP (Slot.holds Record.lapses)

/-- The table's part of a cycle mark (R60): the countdown, one count in LAPSED_DEMANDS for each record
that lapses, and DEMAND_LAPSED if there is one. -/
def State.countLifetimes (s : State) : State :=
  let n := lapsing s.table
  let u := ({ s with table := s.table.map Slot.countDown }).countTimes .lapsedDemands n
  if n = 0 then u else u.notify .demandLapsed

/-- The record with its entry for a cam written, if its cam set names the cam (R48). -/
def Record.write (r : Record) (c : Cam) (o : Outcome) : Record :=
  if r.cams.get c then { r with outcomes := r.outcomes.set c o } else r

/-- The record with every entry PENDING and clear (R48, R54). -/
def Record.withdraw (r : Record) : Record := { r with outcomes := .const .fresh }

/-- The table with an operation made on every live record. -/
def mapRecords (f : Record → Record) (t : List Slot) : List Slot :=
  t.map (fun x => { x with record := x.record.map f })

/-- Entry n of every live record naming cam n becomes PENDING, clear (R87, R89). -/
def State.withdrawCam (s : State) (c : Cam) : State :=
  { s with table := mapRecords (fun r => r.write c .fresh) s.table }

/-- Every entry of every live record becomes PENDING, clear (R88). -/
def State.withdrawAll (s : State) : State := { s with table := mapRecords Record.withdraw s.table }

/-- A live record with its place in the table. -/
structure Entry where
  slot       : Nat
  generation : Nat
  record     : Record
  deriving DecidableEq, Repr

/-- The handle that names an entry (R44). -/
def Entry.handle (x : Entry) : Nat := handleOf x.slot x.generation

/-- The live records of the slots from number `n` on, in ascending slot order. -/
def entriesFrom (n : Nat) : List Slot → List Entry
  | [] => []
  | x :: rest =>
    match x.record with
    | some r => ⟨n, x.generation, r⟩ :: entriesFrom (n + 1) rest
    | none => entriesFrom (n + 1) rest

/-- The live records in ascending slot order. -/
def entries (t : List Slot) : List Entry := entriesFrom 0 t

/-- The slots from number `n` on, with an operation made on every live record, which may read the
slot's number. -/
def mapEntriesFrom (f : Nat → Record → Record) (n : Nat) : List Slot → List Slot
  | [] => []
  | x :: rest => { x with record := x.record.map (f n) } :: mapEntriesFrom f (n + 1) rest

end Sys2Proof.Machine
end

