-- ==== Sys2Proof/Machine/Channel.lean ====
section
/-! DEFINITION. The valve channel's operations (07): the output and what a change of it brings (R136,
R140), the command (R135), the regulator's duty (R138), and what a period end does (R137, R139,
R142). -/

namespace Sys2Proof.Machine

/-- The three conditions under which an output is DRIVEN (R136). -/
def Channel.mayDrive (h : Channel) (line : ParkLine) : Bool :=
  decide (0 < h.command) && decide (line = .released) && decide (h.latch = .none)

/-- The effects of a change from DRIVEN to OFF (R140): the switch opens, and the duty, CURRENT_LIMITED
and the open-load run clear. The command and the measured mean stay. -/
def Channel.switchOff (h : Channel) : Channel :=
  { h with output := .off, switchClosed := false, duty := 0, limited := false, openLoadRun := 0,
           wholePeriod := false, starting := false }

/-- The effects of a change from OFF to DRIVEN (R136, R138): the switch closes at once and the rest of
the period is driven at full duty. -/
def Channel.switchOn (h : Channel) : Channel :=
  { h with output := .driven, switchClosed := true, duty := 1000, wholePeriod := false,
           starting := true }

/-- The output follows its three conditions within the event that changes one of them (R136). -/
def Channel.follow (h : Channel) (line : ParkLine) : Channel :=
  match h.output, h.mayDrive line with
  | .driven, false => h.switchOff
  | .off, true => h.switchOn
  | _, _ => h

/-- A command written to the channel (R135, R140): one it already holds changes nothing; one below
100 mA sets the open-load run to 0. -/
def Channel.write (h : Channel) (line : ParkLine) (mA : Nat) : Channel :=
  if mA = h.command then h
  else
    ({ h with command := mA, openLoadRun := if mA < 100 then 0 else h.openLoadRun }).follow line

/-- A driver fault latched, and the output OFF with it (R141, R143, R144). -/
def Channel.latchFault (h : Channel) (line : ParkLine) (fault : Latch) : Channel :=
  ({ h with latch := fault }).follow line

/-- The channel re-armed (R144). -/
def Channel.rearm (h : Channel) (line : ParkLine) : Channel :=
  ({ h with latch := .none, openLoadRun := 0, limited := false, duty := 0 }).follow line

/-- The PWM periods an open load takes to qualify: 20 × PWM_HZ / 1,000, rounded up (R142). -/
def openLoadPeriods (hz : Nat) : Nat := (20 * hz + 999) / 1000

/-- The duty of the next period of a DRIVEN channel, from a free value (R138): full while the drive
keeps the duty it started at; higher than the present one when the mean lies below the command, unless
that is already 100 %; lower when it lies above, unless that is already 0; any when they are equal.
Log 9. -/
def Channel.nextDuty (h : Channel) (mean choice : Nat) : Nat :=
  if h.starting ∧ mean ≤ h.command then 1000
  else if mean < h.command then
    if h.duty < 1000 then h.duty + 1 + choice % (1000 - h.duty) else 1000
  else if h.command < mean then
    if h.duty = 0 then 0 else choice % h.duty
  else choice % 1001

/-- CURRENT_LIMITED as a period end judges it: the duty was 100 % through the period and 100 × mean is
less than 95 × command (R139). -/
def Channel.judgeLimited (h : Channel) (mean : Nat) : Bool :=
  decide (h.duty = 1000 ∧ 100 * mean < 95 * h.command)

/-- The open-load run as a period end judges it (R142). -/
def Channel.judgeOpenLoad (h : Channel) (mean : Nat) : Nat :=
  if 100 ≤ h.command ∧ 4 * mean < h.command then h.openLoadRun + 1 else 0

/-- The first two parts of a period end (R137): the mean is taken, held at 3,000 mA; if the output was
DRIVEN throughout the period, CURRENT_LIMITED and the open-load run are updated. -/
def Channel.judge (h : Channel) (sensed : Nat) : Channel :=
  let mean := min sensed 3000
  if h.wholePeriod then
    { h with mean := .measured mean, limited := h.judgeLimited mean,
             openLoadRun := h.judgeOpenLoad mean }
  else { h with mean := .measured mean }

/-- The last part of a period end and the start of the next period (R137, R138): a DRIVEN channel's
duty is set and its switch closes, unless the duty is 0. -/
def Channel.beginPeriod (h : Channel) (mean choice : Nat) : Channel :=
  match h.output with
  | .off => { h with wholePeriod := false }
  | .driven =>
    let duty := h.nextDuty mean choice
    { h with duty := duty, switchClosed := decide (0 < duty), wholePeriod := true,
             starting := h.starting && decide (mean ≤ h.command) }

/-- The current a status request reports: the measured mean, or the sensed current, held to 0 to
3,000 mA, while none has been measured since a reset (R138, R148; log 10). -/
def MeanCurrent.report (m : MeanCurrent) (sensed : Nat) : Nat :=
  match m with
  | .measured mA => mA
  | .asSensed => min sensed 3000

/-- A command written to a cam's channel (R135). -/
def State.command (s : State) (c : Cam) (mA : Nat) : State :=
  s.setCam c { s.cam c with channel := (s.cam c).channel.write s.parkLine mA }

/-- Every channel's output follows the park line state (R136, R145, R146). -/
def State.followPark (s : State) : State :=
  s.eachCam (fun c u => u.setCam c { u.cam c with channel := (u.cam c).channel.follow u.parkLine })

end Sys2Proof.Machine
end

