-- ==== Sys2Proof/Machine/Arbitration.lean ====
section
/-! DEFINITION. The cam arbiter (04): the cleared result (R70, R87), and the stages of an arbitration
(R72 to R86). -/

namespace Sys2Proof.Machine

/-- The arbiter with its result cleared and its suppression flag kept (R70, R87). -/
def Arbiter.clear (a : Arbiter) : Arbiter := { Arbiter.reset with suppressed := a.suppressed }

/-- The active slew in force: the cam's SLEW, or the lesser of SLEW and the cap of a winning override
(R70, R85). -/
def Arbiter.activeSlew (a : Arbiter) (k : CamItems) : Nat :=
  match a.slewCap with
  | none => k.slew
  | some cap => min k.slew cap

/-- Clear a cam's result and withdraw its outcomes (R87). -/
def State.clearArbiter (s : State) (c : Cam) : State :=
  (s.setCam c { s.cam c with arbiter := (s.cam c).arbiter.clear }).withdrawCam c

/-- The suppression flag after the test at the speed used (R74). -/
def suppression (g : GlobalItems) (speed : Nat) (flag : Bool) : Bool :=
  if speed < g.suppressRpm then true else if g.releaseRpm ≤ speed then false else flag

/-- The record applies at a speed: it has no speed band, or the speed lies within it (R76). -/
def Record.appliesAt (r : Record) (speed : Nat) : Bool :=
  match r.band with
  | none => true
  | some (lo, hi) => decide (lo ≤ speed ∧ speed ≤ hi)

/-- The entries of one class. -/
def ofClass (k : Class) (es : List Entry) : List Entry := es.filter (fun x => decide (x.record.cls = k))

/-- The entry of highest priority, the lowest slot among equals, of a list in ascending slot order
(R77, R82). -/
def highest : List Entry → Option Entry
  | [] => none
  | x :: rest =>
    match highest rest with
    | none => some x
    | some y => if x.record.rank < y.record.rank then some y else some x

/-- The weighted mean of the blends' targets, halves rounded up (R78): with S the sum of weight ×
target and W the sum of the weights, floor((2S + W) / 2W). -/
def blendMean (es : List Entry) : Nat :=
  let s := (es.map (fun x => x.record.rank * x.record.first)).sum
  let w := (es.map (fun x => x.record.rank)).sum
  (2 * s + w) / (2 * w)

/-- The clamp of a value to a range (00_scope.md, "Numbers"). -/
def clamp (v lo hi : Nat) : Nat := if v < lo then lo else if hi < v then hi else v

/-- A limit's bounds are the ones that moved the base to E1 (R81). -/
def bindsAt (base e1 floor ceiling : Nat) : Bool :=
  decide ((base < floor ∧ e1 = floor) ∨ (ceiling < base ∧ e1 = ceiling))

/-- What the stages of an arbitration that is not suppressed find: the winning override and the blends
(R77, R78), the base (R77 to R79), the limits applied (R80), the limit used alone in a conflict (R82),
the bounds, E1 and E (R81 to R83). -/
structure Plan where
  override : Option Entry
  blends   : List Entry
  base     : Nat
  applied  : List Entry
  used     : Option Entry
  floor    : Nat
  ceiling  : Nat
  e1       : Nat
  target   : Nat
  deriving DecidableEq, Repr

/-- The greatest of the floors of applied limits; 0 when there are none (R80, R81). -/
def greatestFloor (es : List Entry) : Nat := es.foldl (fun m x => max m x.record.first) 0

/-- The least of the ceilings of applied limits; 2,047 when there are none (R80, R81). -/
def leastCeiling : List Entry → Nat
  | [] => 2047
  | x :: rest => rest.foldl (fun m y => min m y.record.second) x.record.second

/-- The limits that apply: under a winning override those of strictly greater priority, otherwise all
(R80). -/
def appliedLimits (override : Option Entry) (limits : List Entry) : List Entry :=
  match override with
  | some w => limits.filter (fun x => decide (w.record.rank < x.record.rank))
  | none => limits

/-- The stages of sections 4.5 to 4.7 over the applicable entries. -/
def plan (k : CamItems) (es : List Entry) : Plan :=
  let override := highest (ofClass .override es)
  let blends := ofClass .blend es
  let base :=
    match override with
    | some w => w.record.first
    | none => if blends.isEmpty then k.defaultTarget else blendMean blends
  let applied := appliedLimits override (ofClass .limit es)
  let lo := greatestFloor applied
  let hi := leastCeiling applied
  let used := if lo ≤ hi then none else highest applied
  let floor := match used with
    | some x => x.record.first
    | none => lo
  let ceiling := match used with
    | some x => x.record.second
    | none => hi
  let e1 := if applied.isEmpty then base else clamp base floor ceiling
  { override := override, blends := blends, base := base, applied := applied, used := used,
    floor := floor, ceiling := ceiling, e1 := e1, target := clamp e1 0 k.travel }

/-- E differs from the base (R84). -/
def Plan.clips (p : Plan) : Bool := decide (p.target ≠ p.base)

/-- A limit's standing by the conditions of R81, against its own floor and ceiling. -/
def Plan.judge (p : Plan) (r : Record) : Outcome :=
  ⟨if bindsAt p.base p.e1 r.first r.second then .binding else .slack, false⟩

/-- An applicable limit's standing (R80 to R82). -/
def Plan.limitOutcome (p : Plan) (slot : Nat) (r : Record) : Outcome :=
  if p.override.any (fun w => decide (r.rank ≤ w.record.rank)) then ⟨.shadowed, false⟩
  else
    match p.used with
    | none => p.judge r
    | some x => if x.slot = slot then p.judge r else ⟨.conflicted, false⟩

/-- An applicable record's outcome (R77, R78, R80 to R82, R84, R86). -/
def Plan.outcome (p : Plan) (slot : Nat) (r : Record) : Outcome :=
  match r.cls with
  | .override =>
    if p.override.any (fun w => decide (w.slot = slot)) then ⟨.winning, p.clips⟩ else ⟨.shadowed, false⟩
  | .blend => if p.override.isSome then ⟨.shadowed, false⟩ else ⟨.contributing, p.clips⟩
  | .limit => p.limitOutcome slot r

/-- What formed the base, as the result names it (R77 to R79). -/
def Plan.winner (p : Plan) : Winner :=
  match p.override with
  | some w => .handle w.handle
  | none => if p.blends.isEmpty then .default else .blend

/-- The records standing WINNING or CONTRIBUTING (R77 to R79). -/
def Plan.contributors (p : Plan) : Nat := if p.override.isSome then 1 else p.blends.length

/-- The result of an arbitration that is not suppressed (R77 to R85). -/
def Plan.result (p : Plan) (speed : Nat) : Arbiter where
  target := p.target
  winner := p.winner
  contributors := p.contributors
  appliedFloor := p.floor
  appliedCeiling := p.ceiling
  slewCap := p.override.bind (fun w => w.record.cap)
  speedUsed := speed
  suppressed := false

/-- The result of a suppressed arbitration (R75). -/
def suppressedResult (speed : Nat) : Arbiter :=
  { Arbiter.reset with winner := .default, speedUsed := speed, suppressed := true }

/-- The live records whose cam set includes a cam (R72). -/
def naming (c : Cam) (t : List Slot) : List Entry :=
  (entries t).filter (fun x => x.record.cams.get c)

/-- The applicable entries at a speed (R76). -/
def applicable (speed : Nat) (es : List Entry) : List Entry :=
  es.filter (fun x => x.record.appliesAt speed)

/-- A record's outcome for a cam at an arbitration that is not suppressed (R76 to R86). -/
def Plan.standing (p : Plan) (speed slot : Nat) (r : Record) : Outcome :=
  if r.appliesAt speed then p.outcome slot r else ⟨.dormant, false⟩

/-- An arbitration of a cam, one event (R72): the speed is read, the suppression flag updated, the
stages run, and the result, the cam's entries and LIMIT_CONFLICT written. -/
def State.arbitrate (s : State) (c : Cam) : State :=
  let k := s.cam c
  let speed := s.tracker.speed
  if suppression s.items.global speed k.arbiter.suppressed then
    { s.setCam c { k with arbiter := suppressedResult speed } with
      table := mapRecords (fun r => r.write c ⟨.suppressed, false⟩) s.table }
  else
    let p := plan (s.cfg c) (applicable speed (naming c s.table))
    let u : State :=
      { s.setCam c { k with arbiter := p.result speed } with
        table := mapEntriesFrom (fun slot r => r.write c (p.standing speed slot r)) 0 s.table }
    if p.used.isSome then u.notify .limitConflict else u

/-- A cam arbitrates at its update points in PARKED, RELEASING, TRACKING and FORCED (R71). -/
def PhaserState.arbitrates : PhaserState → Bool
  | .parked | .releasing | .tracking | .forced => true
  | .disabled | .fault => false

/-- The arbiter's part of an update point (R71): the state tested is the one in which the sequencer
stood before the event. -/
def State.updatePoint (s : State) (c : Cam) : State :=
  if (s.cam c).phaser.state.arbitrates then s.arbitrate c else s

end Sys2Proof.Machine
end

