-- ==== Sys2Proof/Machine/Loop.lean ====
section
/-! DEFINITION. The position loop (06): the ramp (R121) and the control law (R124 to R127). -/

namespace Sys2Proof.Machine

/-- The clamp of a signed value to a range (00_scope.md, "Numbers"). -/
def clampInt (v lo hi : Int) : Int := if v < lo then lo else if hi < v then hi else v

/-- R moved toward E by at most the active slew (R121). -/
def ramp (r target slew : Nat) : Nat :=
  if r + slew < target then r + slew else if target + slew < r then r - slew else target

/-- The tentative integrator acc′ (R125). -/
def tentative (k : CamItems) (acc e : Int) : Int :=
  clampInt (acc + (k.ki : Int) * e) (-((k.ilim : Int) * 64)) ((k.ilim : Int) * 64)

/-- The raw command u, in mA (R126). -/
def rawCommand (k : CamItems) (acc' e : Int) : Int :=
  (k.holdCurrent : Int) + Int.tdiv ((k.kp : Int) * e + acc') 64

/-- The command: u limited to 0 to IMAX (R127). -/
def limitCommand (k : CamItems) (u : Int) : Nat := (clampInt u 0 (k.imax : Int)).toNat

/-- The integrator after the update: held when the command saturates in the direction of the error
(R127). -/
def settleIntegrator (k : CamItems) (acc acc' u e : Int) : Int :=
  if (k.imax : Int) < u ∧ 0 < e then acc else if u < 0 ∧ e < 0 then acc else acc'

/-- One update's R, integrator and command, from E, the active slew and d (R120). -/
def Loop.update (l : Loop) (k : CamItems) (target slew : Nat) (d : Int) : Loop × Nat :=
  let r := ramp l.ramped target slew
  let e := (r : Int) - d
  let acc' := tentative k l.integrator e
  let u := rawCommand k acc' e
  (⟨r, settleIntegrator k l.integrator acc' u e⟩, limitCommand k u)

/-- The integrator in mA, as CAM_STATUS reports it: trunc(acc / 64) (R134). -/
def Loop.integratorMa (l : Loop) : Int := Int.tdiv l.integrator 64

end Sys2Proof.Machine
end

