-- ==== Sys2Proof/Machine/Phaser.lean ====
section
/-! DEFINITION. The phaser sequencer (05): its transitions, the learn, fault reports, and what it does
with a measurement event and a cycle mark. LEARN and CLEAR_FAULT stand in `Machine/Service.lean`. -/

namespace Sys2Proof.Machine

/-! ## The learn -/

/-- A learn ends with a result, and LEARN_ENDED of the cam is set; samples and sum keep their values
(R115, R116). -/
def State.endLearn (s : State) (c : Cam) (result : LearnResult) : State :=
  let k := s.cam c
  (s.setCam c { k with phaser := { k.phaser with learning := false, lastLearn := result } }).notify
    (.learnEnded c)

/-- A BUSY learn is aborted (R116). -/
def State.abortLearn (s : State) (c : Cam) : State :=
  if (s.cam c).phaser.learning then s.endLearn c .aborted else s

/-- The mean of eight samples, halves rounded up (R115). -/
def learnMean (sum : Int) : Int := (sum + 4) / 8

/-- The eighth sample completes the learn: L takes L + mean if that lies within ±LEARN_LIMIT (R115). -/
def State.completeLearn (s : State) (c : Cam) : State :=
  let k := s.cam c
  let offset := k.lane.offset + learnMean k.phaser.sum
  if offset.natAbs ≤ s.items.global.learnLimit then
    (s.setCam c { k with lane := { k.lane with offset := offset } }).endLearn c .done
  else s.endLearn c .failed

/-- A measurement event taken in PARKED gives a BUSY learn its sample (R114). -/
def State.learnSample (s : State) (c : Cam) (d : Int) : State :=
  let k := s.cam c
  if k.phaser.learning then
    let u := s.setCam c
      { k with phaser := { k.phaser with sum := k.phaser.sum + d, samples := k.phaser.samples + 1 } }
    if k.phaser.samples + 1 = 8 then u.completeLearn c else u
  else s

/-! ## Transitions -/

/-- The sequencer with its runs at 0 and its cycle error flags reset (R104). -/
def Sequencer.resetRuns (q : Sequencer) : Sequencer :=
  { q with parkRun := 0, errorRun := 0, eventSeen := false, allOver := true }

/-- The cam put in a state in which it does not move (R105, R106, R109): the command, R, the
integrator, the release-cycle count and the runs become 0, and the cycle error flags are reset. -/
def State.standDown (s : State) (c : Cam) (st : PhaserState) : State :=
  let k := s.cam c
  (s.setCam c { k with
    phaser := { k.phaser.resetRuns with state := st, releaseCount := 0 }
    loop := .reset }).command c 0

/-- The cam moves under its valve or its lock pin's release: PARKED, RELEASING or TRACKING. -/
def PhaserState.inService : PhaserState → Bool
  | .parked | .releasing | .tracking => true
  | .disabled | .forced | .fault => false

/-- Release begins (R97). -/
def State.beginRelease (s : State) (c : Cam) : State :=
  let u := s.abortLearn c
  let k := u.cam c
  (u.setCam c { k with phaser := { k.phaser with state := .releasing, releaseCount := 0 } }).command c
    (u.cfg c).releaseCurrent

/-- A release is abandoned (R98). -/
def State.abandonRelease (s : State) (c : Cam) : State :=
  let k := s.cam c
  (s.setCam c { k with phaser := { k.phaser with state := .parked, releaseCount := 0 } }).command c 0

/-- The entry to TRACKING with the bumpless preset (R102): R from the last valid displacement, the
integrator from RELEASE_CURRENT; the command stays. -/
def State.enterTracking (s : State) (c : Cam) : State :=
  let k := s.cam c
  let x := s.cfg c
  s.setCam c { k with
    phaser := { k.phaser.resetRuns with state := .tracking }
    loop :=
      { ramped := if k.lane.valid then clamp k.lane.d.toNat 0 x.travel else 0
        integrator := ((x.releaseCurrent : Int) - (x.holdCurrent : Int)) * 64 } }

/-- The return to park that ends TRACKING (R103). -/
def State.returnToPark (s : State) (c : Cam) : State :=
  let k := s.cam c
  (s.setCam c { k with phaser := { k.phaser.resetRuns with state := .parked }, loop := .reset }).command
    c 0

/-! ## Faults -/

/-- A cause added to a set; one already in it stays there once (R110). -/
def CauseSet.add (x : CauseSet) : Cause → CauseSet
  | .signal => { x with signal := true }
  | .overcurrent => { x with overcurrent := true }
  | .openLoad => { x with openLoad := true }
  | .stuck => { x with stuck := true }
  | .following => { x with following := true }

/-- The fault cause set of a cam replaced. -/
def State.setCauses (s : State) (c : Cam) (x : CauseSet) : State :=
  let k := s.cam c
  s.setCam c { k with phaser := { k.phaser with causes := x } }

/-- A fault report taken is counted in FAULTS of the cam and sets its PHASER_FAULT (R109, R110). -/
def State.countFault (s : State) (c : Cam) : State :=
  (s.count (.ofCam c .faults)).notify (.phaserFault c)

/-- The entry to FAULT (R109). -/
def State.enterFault (s : State) (c : Cam) (cause : Cause) : State :=
  ((((s.abortLearn c).standDown c .fault).setCauses c (CauseSet.empty.add cause)).countFault c).clearArbiter
    c

/-- A fault report reaches the cam's sequencer (R108 to R110): a DISABLED cam takes none. -/
def State.reportFault (s : State) (c : Cam) (cause : Cause) : State :=
  match (s.cam c).phaser.state with
  | .disabled => s
  | .fault => (s.setCauses c ((s.cam c).phaser.causes.add cause)).countFault c
  | .parked | .releasing | .tracking | .forced => s.enterFault c cause

/-! ## Measurement events (R95) -/

/-- The test for rest at park after an update (R103). -/
def atRest (target ramped : Nat) (d : Int) (band : Nat) : Bool :=
  decide (target = 0 ∧ ramped = 0 ∧ d ≤ (band : Int))

/-- The event recorded in the cycle error flags (R104). -/
def Sequencer.recordError (q : Sequencer) (limit : Nat) (e : Int) : Sequencer :=
  if limit = 0 then q
  else { q with eventSeen := true, allOver := q.allOver && decide (limit < e.natAbs) }

/-- The park-return test and then the cycle error record (R103, R104). An event that returns the cam to
park is not recorded: the exit resets the flags. Log 14. -/
def State.trackTests (s : State) (c : Cam) (d : Int) : State :=
  let k := s.cam c
  let run := if atRest k.arbiter.target k.loop.ramped d (s.cfg c).parkBand then k.phaser.parkRun + 1 else 0
  if run = 2 then s.returnToPark c
  else s.setCam c { k with
    phaser := { k.phaser.recordError (s.cfg c).trackErrLimit ((k.loop.ramped : Int) - d) with
      parkRun := run } }

/-- The position loop's update on an event handed to it (R120, R128). -/
def State.updateLoop (s : State) (c : Cam) (d : Int) : State :=
  let k := s.cam c
  let x := s.cfg c
  let l := k.loop.update x k.arbiter.target (k.arbiter.activeSlew x) d
  (s.setCam c { k with loop := l.1 }).command c l.2

/-- The sequencer takes a measurement event with displacement `d` from window `j` (R95). The test of an
update point comes first, and a state entered by it takes the cam's next event. -/
def State.takeEvent (s : State) (c : Cam) (j : Nat) (d : Int) : State :=
  let k := s.cam c
  let x := s.cfg c
  match k.phaser.state with
  | .parked =>
    if j = 0 ∧ x.parkBand < k.arbiter.target then s.beginRelease c else s.learnSample c d
  | .releasing =>
    if j = 0 ∧ k.arbiter.target ≤ x.parkBand then s.abandonRelease c
    else if 0 < x.unlockThreshold ∧ (x.unlockThreshold : Int) < d then s.enterTracking c
    else s
  | .tracking => (s.updateLoop c d).trackTests c d
  | .disabled | .forced | .fault => s

/-- A measurement event announced by a lane (R31): at an update point the arbiter takes it first, then
the sequencer. -/
def State.measurementEvent (s : State) (c : Cam) (j : Nat) (d : Int) : State :=
  (if j = 0 then s.updatePoint c else s).takeEvent c j d

/-! ## Cycle marks (R96) -/

/-- A cycle mark taken in RELEASING (R100, R101). -/
def State.releaseMark (s : State) (c : Cam) : State :=
  let k := s.cam c
  let x := s.cfg c
  let n := k.phaser.releaseCount + 1
  let u := s.setCam c { k with phaser := { k.phaser with releaseCount := n } }
  if 0 < x.unlockCycles ∧ n = x.unlockCycles then u.enterTracking c
  else if n = x.releaseLimit then u.reportFault c .stuck
  else u

/-- The following-error run after a cycle closed with these flags (R104). -/
def closeErrorRun (seen allOver : Bool) (run : Nat) : Nat :=
  if seen then if allOver then run + 1 else 0 else run

/-- A cycle mark taken in TRACKING closes the cycle's following-error record (R104). -/
def State.trackMark (s : State) (c : Cam) : State :=
  let k := s.cam c
  let x := s.cfg c
  if x.trackErrLimit = 0 then s
  else
    let run := closeErrorRun k.phaser.eventSeen k.phaser.allOver k.phaser.errorRun
    let u := s.setCam c
      { k with phaser := { k.phaser with errorRun := run, eventSeen := false, allOver := true } }
    if run = x.trackErrCycles then u.reportFault c .following else u

/-- The sequencer of a cam takes a cycle mark (R96). -/
def State.cycleMark (s : State) (c : Cam) : State :=
  match (s.cam c).phaser.state with
  | .releasing => s.releaseMark c
  | .tracking => s.trackMark c
  | .disabled | .parked | .forced | .fault => s

/-! ## Loss of sync and the park line -/

/-- The sequencer of a cam takes a loss of ENGINE_SYNC (R105). -/
def State.parkOnLoss (s : State) (c : Cam) : State :=
  if (s.cam c).phaser.state.inService then (s.abortLearn c).standDown c .parked else s

/-- The sequencer of a cam takes an assertion of the park line (R106). -/
def State.forceOnAssert (s : State) (c : Cam) : State :=
  if (s.cam c).phaser.state.inService then (s.abortLearn c).standDown c .forced else s

/-- The sequencer of a cam takes the recognised release of the park line (R107). -/
def State.parkOnRelease (s : State) (c : Cam) : State :=
  let k := s.cam c
  if k.phaser.state = .forced then
    (s.setCam c { k with phaser := { k.phaser with state := .parked } }).command c 0
  else s

/-- The arbiter of a cam takes a loss of ENGINE_SYNC (R88). -/
def State.clearOnLoss (s : State) (c : Cam) : State :=
  if s.enabled c then s.setCam c { s.cam c with arbiter := (s.cam c).arbiter.clear } else s

end Sys2Proof.Machine
end

