-- ==== Sys2Proof/Machine/Lane.lean ====
section
/-! DEFINITION. The cam capture unit (02): windows and angles (R24, R25), the displacement (R29), a
measured edge (R30), misses (R36, R37), and what a lane does at its neighbours' events (R35, R41). -/

namespace Sys2Proof.Machine

/-! ## Angles -/

/-- (a − b) mod 11,520, in 0 to 11,519 (00_scope.md, "Angle"). -/
def angleSub (a b : Nat) : Nat := (a + 11520 - b % 11520) % 11520

/-- norm: a signed angle difference reduced modulo 11,520 into −5,760 to +5,759 (00_scope.md,
"Angle"). -/
def norm (x : Int) : Int := (x + 5760) % 11520 - 5760

/-- A window's width (R24). -/
def windowWidth (k : CamItems) : Nat := k.travel + 2 * k.margin + 1

/-- The start of the window with a base (R24). -/
def windowStart (k : CamItems) (base : Nat) : Nat :=
  match k.direction with
  | .advance => angleSub base (k.travel + k.margin)
  | .retard => angleSub base k.margin

/-- The configured bases, WINDOW_BASE[0] to WINDOW_BASE[WINDOW_COUNT − 1] (R24). -/
def CamItems.bases (k : CamItems) : List Nat :=
  [k.windowBase0, k.windowBase1, k.windowBase2, k.windowBase3].take k.windowCount

/-- The window a lane builds for a base (R24), its pass clean. -/
def buildWindow (k : CamItems) (base : Nat) : Window where
  base := base
  start := windowStart k base
  width := windowWidth k
  hit := false
  late := false
  passed := false

/-- The window list of a cam's items (R24). -/
def buildWindows (k : CamItems) : List Window := k.bases.map (buildWindow k)

/-- An angle lies in a window (R25). -/
def Window.contains (w : Window) (a : Nat) : Bool := decide (angleSub a w.start < w.width)

/-- The angle one beyond a window's last angle, at whose covering it closes (R17). -/
def Window.closeAngle (w : Window) : Nat := (w.start + w.width) % 11520

/-- The list position of the window an angle lies in, if any; windows of a cam are disjoint (R24). -/
def windowAt (ws : List Window) (a : Nat) : Option Nat := ws.findIdx? (fun w => w.contains a)

/-- The angle shifted by half a cycle (R33). -/
def shifted (a : Nat) : Nat := (a + 5760) % 11520

/-- A forward motion of the angle clock from `old` to `new` covers an angle: one after the old value, up
to and including the new, modulo 11,520 (R17). -/
def covers (old new a : Nat) : Bool :=
  decide (0 < angleSub a old ∧ angleSub a old ≤ angleSub new old)

/-! ## Lanes -/

/-- A cam's lane replaced. -/
def State.setLane (s : State) (c : Cam) (l : Lane) : State := s.setCam c { s.cam c with lane := l }

/-- A cam's sign factor (00_scope.md, "Displacement and its sign"). -/
def Direction.sign : Direction → Int
  | .advance => 1
  | .retard => -1

/-- The displacement of an edge at an angle in a window (R29). -/
def displacement (k : CamItems) (offset : Int) (base angle : Nat) : Int :=
  k.direction.sign * norm ((base : Int) - (angle : Int)) - offset

/-- A lane after an edge measured in window `j` with displacement `d` (R30). -/
def Lane.measure (l : Lane) (j : Nat) (d : Int) : Lane :=
  { l with d := d, dWindow := j, valid := true, missRun := 0,
           windows := l.windows.modify j (fun w => { w with hit := true }) }

/-- An edge measured in window `j` of a cam (R30), and its measurement event (R31). -/
def State.measure (s : State) (c : Cam) (j : Nat) (base angle : Nat) : State :=
  let l := (s.cam c).lane
  let d := displacement (s.cfg c) l.offset base angle
  ((s.setLane c (l.measure j d)).count (.ofCam c .edges)).measurementEvent c j d

/-- What the lane reports to the tracker of a reference-cam edge (R18, R28, R33). -/
inductive EdgeReport where
  | inWindow | halfMismatch | neither
  deriving DecidableEq, Repr

/-- The report of an edge at an angle (R18, R33). -/
def edgeReport (ws : List Window) (a : Nat) : EdgeReport :=
  if (windowAt ws a).isSome then .inWindow
  else if (windowAt ws (shifted a)).isSome then .halfMismatch
  else .neither

/-- The tracker's per-cycle flags after a reference-cam edge (R18). -/
def Cycle.note (y : Cycle) : EdgeReport → Cycle
  | .inWindow => { y with refHit := true }
  | .halfMismatch => { y with mismatch := true }
  | .neither => y

/-- A lane's classification of a converted edge (R28): measured (R30), a second edge (R32), or
out-of-window (R33). -/
def State.classify (s : State) (c : Cam) (a : Nat) : State :=
  let ws := (s.cam c).lane.windows
  match windowAt ws a with
  | some j =>
    match ws[j]? with
    | some w => if w.hit then s.count (.ofCam c .stray) else s.measure c j w.base a
    | none => s
  | none =>
    let u := s.count (.ofCam c .stray)
    if c = s.items.global.referenceCam ∧ (windowAt ws (shifted a)).isSome then
      u.count (.ofCam c .halfMismatch)
    else u

/-- A window's next pass begins: the hit flag and the late-start mark clear, and its close is taken
(R17, R34, R36). -/
def Window.nextPass (w : Window) : Window := { w with hit := false, late := false, passed := true }

/-- A miss (R36, R37): MISSED and the miss run increment; the miss that brings the run to MISS_LIMIT
clears the valid flag and reports SIGNAL. With MISS_LIMIT 1 that is so of the first miss after a
CLEAR_FAULT too, also on its tick, where R41 says that such a miss brings no report: DESIGN CHOICE,
log 31. -/
def State.miss (s : State) (c : Cam) : State :=
  let l := (s.cam c).lane
  let u := s.count (.ofCam c .missed)
  if l.missRun < (s.cfg c).missLimit then
    if l.missRun + 1 = (s.cfg c).missLimit then
      (u.setLane c { l with missRun := l.missRun + 1, valid := false }).reportFault c .signal
    else u.setLane c { l with missRun := l.missRun + 1 }
  else u

/-- The close of window `j` of a cam (R36): the pass is tested, and the flags are cleared. -/
def State.closeWindow (s : State) (c : Cam) (j : Nat) : State :=
  let l := (s.cam c).lane
  match l.windows[j]? with
  | some w =>
    let u := s.setLane c { l with windows := l.windows.modify j Window.nextPass }
    if w.hit || w.late then u else u.miss c
  | none => s

/-- Window `j` of a live lane closes by a motion of the clock, once (R17). -/
def State.closeBy (s : State) (old new : Nat) (c : Cam) (j : Nat) : State :=
  match (s.cam c).lane.windows[j]? with
  | some w =>
    if s.enabled c && !w.passed && covers old new w.closeAngle then s.closeWindow c j else s
  | none => s

/-- The list positions a window may have. -/
def positions : List Nat := [0, 1, 2, 3]

/-- Every window that a tooth's step of the clock closes, each in its own lane (R17, R36). -/
def State.closeAll (s : State) (old new : Nat) : State :=
  s.eachCam (fun c u => positions.foldl (fun v j => v.closeBy old new c j) u)

/-- A lane with an operation made on each of its windows. -/
def Lane.eachWindow (l : Lane) (f : Window → Window) : Lane := { l with windows := l.windows.map f }

/-- A new pitch begins at a tooth: no close has been taken in it (R17). -/
def State.newPitch (s : State) : State :=
  s.eachCam (fun c u =>
    u.setLane c ((u.cam c).lane.eachWindow (fun w => { w with passed := false })))

/-- A lane at the gain of ENGINE_SYNC, the clock standing at `a` (R35): the windows that contain it are
marked late. The clock's motion up to `a` passed over no angle (R16), so the windows whose close angle
lies at or before it in the present pitch are not closed by it. -/
def Lane.gain (l : Lane) (a : Nat) : Lane :=
  l.eachWindow (fun w => { w with late := w.contains a, passed := false })

/-- Every live lane at the gain of ENGINE_SYNC (R35, R41). -/
def State.gainLanes (s : State) (a : Nat) : State :=
  s.eachCam (fun c u => if u.enabled c then u.setLane c ((u.cam c).lane.gain a) else u)

/-- A lane at a loss of ENGINE_SYNC (R41). -/
def Lane.lose (l : Lane) : Lane :=
  { l.eachWindow (fun w => { w with hit := false, late := false, passed := false }) with
    valid := false, missRun := 0 }

/-- A loss of ENGINE_SYNC announced to a cam's lane, sequencer and arbiter (R21, R41, R88, R105). -/
def State.loseCam (c : Cam) (s : State) : State :=
  ((s.setLane c (s.cam c).lane.lose).parkOnLoss c).clearOnLoss c

/-- A loss of ENGINE_SYNC announced to every lane, sequencer and arbiter (R21). -/
def State.loseSync (s : State) : State := (s.eachCam State.loseCam).withdrawAll

end Sys2Proof.Machine
end

