-- ==== Sys2Proof/Machine/Link.lean ====
section
/-! DEFINITION. The link controller and the resets (09): the meanings of CSN_FALL, CSN_RISE,
PROCESSING_COMPLETE, LINK_LOSS, NOP, SOFT_RESET, POWER_ON, RSTN, RSTN_RISE and READY_DELAY_EXPIRY, and
how an owner takes a delivered request. -/

namespace Sys2Proof.Machine

/-! ## Resets -/

/-- The park line state taken from the pin as a reset ends (R148). -/
def lineOf : Level → ParkLine
  | .low => .asserted
  | .high => .released

/-- A transaction in progress when a reset begins is cut short (R171): what is left of it is ignored, and SDO
stays high-impedance until CSN has risen, also once the ready flag is set again, where R161 could be read to drive
it. DESIGN CHOICE, log 34. -/
def Transaction.cut : Transaction → Transaction
  | .idle => .idle
  | .ignored | .late _ | .opened => .ignored

/-- A reset (R171): every block is in the state its chapter gives, whatever the cause; the pins keep
their levels, and the ready delay runs if the reset has ended. -/
def State.resetBlocks (s : State) (cause : ResetCause) (ended : Option Nat) : State :=
  { State.reset with
    link := .reset cause ended s.link.transaction.cut
    parkLine := lineOf s.parkn
    rstn := s.rstn
    parkn := s.parkn
    now := s.now
    fresh := s.fresh
    lagging := s.lagging
    pending := s.pending }

/-- POWER_ON (R171): with RSTN high the reset ends as the internal power-on reset releases; with RSTN
low it lasts until the pin rises. -/
def execPowerOn (rstn parkn : Level) (t : Nat) (s : State) : Host.Outcome State Fault Refusal :=
  .next (s.at t (fun u =>
    ({ u with rstn := rstn, parkn := parkn }).resetBlocks .powerOn
      (match rstn with
        | .high => some t
        | .low => none)))

/-- RSTN (R171): the pin goes low; RSTN held low keeps the part in reset. -/
def execRstn (s : State) : Host.Outcome State Fault Refusal :=
  .next (if s.rstn = .low then s else ({ s with rstn := .low }).resetBlocks .pin none)

/-- RSTN_RISE (R171): the pin goes high, the reset ends, the ready delay starts, and the park line state
is taken from the pin (R148). -/
def execRstnRise (t : Nat) (s : State) : Host.Outcome State Fault Refusal :=
  .next (s.at t (fun u =>
    if u.rstn = .high then u
    else
      { u with
        rstn := .high
        parkLine := lineOf u.parkn
        qualification := none
        link := { u.link with readyFrom := some t } }))

/-- READY_DELAY_EXPIRY (R171): 2 ms after the reset ended the ready flag is set, and the SUMMARY of the
RESET_MARK is formed (R167). -/
def execReadyDelayExpiry (t : Nat) (s : State) : Host.Outcome State Fault Refusal :=
  .next (s.at t (fun u =>
    if u.link.readyFrom.any (fun t0 => expired t0 (msTicks 2) t) then
      { u with link := { u.link with
          ready := true, readyFrom := none,
          response := { u.link.response with summary := some u.summary } } }
    else u))

/-! ## Transactions -/

/-- The LATE response formed at a fall of CSN (R167, R168). -/
def State.lateResponse (s : State) : Response := ⟨0xFF, .late, some s.summary, []⟩

/-- CSN_FALL (R161, R168): a transaction opens, ignored whole while the ready flag is clear, LATE while
processing is busy. -/
def execCsnFall (s : State) : Host.Outcome State Fault Refusal :=
  .next (
    match s.link.transaction with
    | .idle =>
      let kind : Transaction :=
        if s.link.ready then if s.link.busy then .late s.lateResponse else .opened else .ignored
      { s with link := { s.link with transaction := kind, received := [], clockedOut := [] } }
    | .ignored | .late _ | .opened => s)

/-- What SDO shows while `n` bytes are clocked: the response's bytes, and 0x00 beyond its end (R161,
R166). -/
def Response.clocked (r : Response) (n : Nat) : List Byte :=
  (r.bytes ++ List.replicate n 0#8).take n

/-- The response whose bytes SDO is driven with, or none while SDO is high-impedance (R161): it is driven
while the ready flag is set and CSN is low, but in a transaction that is ignored whole, which clocks nothing
out. A LATE transaction shows its own response (R168). -/
def Link.sdo (l : Link) : Option Response :=
  match l.transaction with
  | .late r => if l.ready then some r else none
  | .opened => if l.ready then some l.response else none
  | .idle | .ignored => none

/-- What the link controller makes of the bytes received (R163). -/
inductive Verdict where
  /-- Discarded, or taken and answered UNKNOWN, by the link itself: the response, the counter, and
  whether the frame was taken. -/
  | answered (echo : Byte) (result : Result) (counter : Option Counter) (taken : Bool)
  /-- Taken and delivered to its owner. -/
  | delivered (request : Request) (payload : List Byte)
  deriving DecidableEq, Repr

/-- The judgement of the bytes received, the first case that applies (R163). -/
def judgeFrame (bytes : List Byte) : Verdict :=
  match bytes with
  | cmd :: len :: rest =>
    if 40 < len.toNat then .answered cmd .badLength none false
    else if rest.length < len.toNat + 1 then .answered 0xFF .frameError (some .frameErrors) false
    else
      let payload := rest.take len.toNat
      if (rest.drop len.toNat).head? ≠ some (crc8 (cmd :: len :: payload)) then
        .answered 0xFF .crcError (some .crcErrors) false
      else
        match Request.ofCode cmd with
        | none => .answered cmd .unknown none true
        | some r => .delivered r payload
  | _ => .answered 0xFF .frameError (some .frameErrors) false

/-- The frame was taken (R163). -/
def Verdict.taken : Verdict → Bool
  | .answered _ _ _ taken => taken
  | .delivered _ _ => true

/-- A frame taken in RUN restarts the link timer at the rise of CSN (R173). -/
def State.restartTimer (s : State) (v : Verdict) (t : Nat) : State :=
  if v.taken = true ∧ s.mode = .run then { s with link := { s.link with timer := some t } } else s

/-- The counter a discarded frame increments (R163). -/
def State.countVerdict (s : State) : Verdict → State
  | .answered _ _ (some k) _ => s.count k
  | .answered _ _ none _ => s
  | .delivered _ _ => s

/-- The answer, or the delivery to the owner, that a verdict brings (R163). -/
def Link.dispose (l : Link) : Verdict → Link
  | .answered echo result _ _ => { l with answer := some (.response echo result []), delivered := none }
  | .delivered r p => { l with answer := none, delivered := some ⟨r, p⟩ }

/-- The end of a transaction that is not LATE (R163, R166): the pending response is delivered if every
byte of it was clocked out, and otherwise lost; processing is busy; the frame is judged. -/
def State.endOpened (s : State) (bytes : List Byte) (t : Nat) : State :=
  let r := s.link.response
  let v := judgeFrame bytes
  let l : Link :=
    { s.link with
      transaction := .idle
      received := bytes.take 43
      clockedOut := r.clocked bytes.length
      delivery := if r.bytes.length ≤ bytes.length then .delivered else .lost
      busy := true
      riseAt := some t }
  (({ s with link := l.dispose v }).countVerdict v).restartTimer v t

/-- CSN_RISE (R161, R163, R166, R168), with the levels sampled on SDI since the fall. -/
def execCsnRise (sampled : List Bool) (t : Nat) (s : State) : Host.Outcome State Fault Refusal :=
  .next (s.at t (fun u =>
    let bytes := assemble sampled
    match u.link.transaction with
    | .idle => u
    | .ignored => { u with link := { u.link with transaction := .idle } }
    | .late r =>
      ({ u with link := { u.link with
          transaction := .idle, received := bytes.take 43, clockedOut := r.clocked bytes.length } }).count
        .lateFrames
    | .opened => u.endOpened bytes t))

/-- Processing takes at most 20 µs, 200 ticks, from the rise (R166). -/
def inProcessing (riseAt : Option Nat) (t : Nat) : Bool := riseAt.any (fun t0 => decide (t ≤ t0 + 200))

/-- PROCESSING_COMPLETE (R166, R167): the response formed becomes the pending response, with the SUMMARY
as the state stands, and the processing-busy flag clears. A taken SOFT_RESET resets the part instead
(R172). -/
def execProcessingComplete (t : Nat) (s : State) : Host.Outcome State Fault Refusal :=
  .next (s.at t (fun u =>
    if u.link.busy = true ∧ inProcessing u.link.riseAt t = true then
      match u.link.answer with
      | some (.response echo result payload) =>
        { u with link := { u.link with
            response := ⟨echo, result, some u.summary, payload⟩, delivery := .waiting
            busy := false, riseAt := none, answer := none } }
      | some .softReset => u.resetBlocks .soft (some t)
      | none => u
    else u))

/-- LINK_LOSS (R63, R173): the link timer has reached LINK_MS; the table is purged, the loss counted and
notified, and the timer restarted. -/
def execLinkLoss (t : Nat) (s : State) : Host.Outcome State Fault Refusal :=
  .next (s.at t (fun u =>
    if u.link.timer.any (fun t0 => expired t0 (msTicks u.items.global.linkMs) t) then
      (({ u with
        table := purge u.table
        link := { u.link with timer := some t } }).count .linkLosses).notify .linkLost
    else u))

/-! ## Requests at their owners -/

/-- What an owner makes of a request: the state after it, the result and the payload of the response. -/
structure Reply where
  state   : State
  result  : Result
  payload : List Byte
  deriving DecidableEq, Repr

/-- A request refused: nothing changes, and the payload is empty. -/
def refuse (s : State) (r : Result) : Reply := ⟨s, r, []⟩

/-- A request taken with OK. -/
def grant (s : State) (payload : List Byte) : Reply := ⟨s, .ok, payload⟩

/-- The owner takes the request delivered to it (R166, R169), and its reply is the answer that
processing will turn into the response. Where that request was not delivered the event does not come
about. Log 4. -/
def State.serve (s : State) (r : Request) (owner : State → List Byte → Reply) : State :=
  match s.link.delivered with
  | some q =>
    if q.request = r then
      let y := owner s q.payload
      { y.state with link := { y.state.link with
          delivered := none, answer := some (.response r.code y.result y.payload) } }
    else s
  | none => s

/-- A request that is taken in RUN alone is refused with WRONG_MODE in CONFIG (R50, R112, R113, R157). -/
def inRun (owner : State → List Byte → Reply) (s : State) (p : List Byte) : Reply :=
  if s.mode = .run then owner s p else refuse s .wrongMode

/-- A request that is taken in CONFIG alone is refused with WRONG_MODE in RUN (R151, R154). -/
def inConfig (owner : State → List Byte → Reply) (s : State) (p : List Byte) : Reply :=
  if s.mode = .config then owner s p else refuse s .wrongMode

/-- NOP at its owner (R169). -/
def ownNop (s : State) (p : List Byte) : Reply :=
  match p with
  | [] => grant s []
  | _ => refuse s .badLength

/-- NOP (R169). -/
def execNop (s : State) : Host.Outcome State Fault Refusal := .next (s.serve .nop ownNop)

/-- SOFT_RESET (R172): with a payload it is refused with BAD_LENGTH; otherwise the part resets when its
processing completes, and its own response is never formed. -/
def execSoftReset (s : State) : Host.Outcome State Fault Refusal :=
  .next (
    if s.link.delivered = some ⟨.softReset, []⟩ then
      { s with link := { s.link with delivered := none, answer := some .softReset } }
    else s.serve .softReset (fun u _ => refuse u .badLength))

end Sys2Proof.Machine
end

