-- ==== Sys2Proof/Machine/Service.lean ====
section
/-! DEFINITION. The phaser sequencer's requests (05): the meanings of LEARN and CLEAR_FAULT. -/

namespace Sys2Proof.Machine

/-- A learn begins (R113): BUSY, with samples 0 and sum 0; the last result keeps its value. -/
def State.beginLearn (s : State) (c : Cam) : State :=
  let k := s.cam c
  s.setCam c { k with phaser := { k.phaser with learning := true, samples := 0, sum := 0 } }

/-- The tracker is in ENGINE_SYNC. -/
def Sync.isEngine : Sync → Bool
  | .engineSync _ _ => true
  | .stopped | .seeking _ | .crankSync _ => false

/-- LEARN at its owner, in RUN (R113). A cam that is still PARKED because its sequencer has yet to take an assertion
of the park line is taken as PARKED: R145 says that LEARN consults the park line state, R113 asks for PARKED and
ENGINE_SYNC alone. DESIGN CHOICE, log 33. -/
def ownLearn (s : State) (p : List Byte) : Reply :=
  match p with
  | [b] =>
    match camOfIndex b.toNat with
    | some c =>
      if (s.cam c).phaser.learning then refuse s .busy
      else if (s.cam c).phaser.state = .parked ∧ s.tracker.sync.isEngine = true then
        grant (s.beginLearn c) []
      else refuse s .notReady
    | none => refuse s .badField
  | _ => refuse s .badLength

/-- LEARN (R113). -/
def execLearn (s : State) : Host.Outcome State Fault Refusal := .next (s.serve .learn (inRun ownLearn))

/-- The state a cam enters out of FAULT, or at COMMIT: FORCED with the park line asserted, PARKED
otherwise (R94, R112). -/
def ParkLine.restState : ParkLine → PhaserState
  | .asserted => .forced
  | .released => .parked

/-- A faulted cam's fault cleared (R112): the cause set is emptied, the cam enters FORCED or PARKED, the
channel is re-armed (R144), and the lane's miss run becomes 0 (R41). -/
def State.clearFault (s : State) (c : Cam) : State :=
  let k := s.cam c
  s.setCam c
    { k with
      phaser := { k.phaser with causes := .empty, state := s.parkLine.restState }
      channel := k.channel.rearm s.parkLine
      lane := { k.lane with missRun := 0 } }

/-- CLEAR_FAULT at its owner, in RUN (R112). -/
def ownClearFault (s : State) (p : List Byte) : Reply :=
  match p with
  | [b] =>
    match camOfIndex b.toNat with
    | some c =>
      if (s.cam c).phaser.state = .fault then grant (s.clearFault c) [] else refuse s .noEffect
    | none => refuse s .badField
  | _ => refuse s .badLength

/-- CLEAR_FAULT (R112). -/
def execClearFault (s : State) : Host.Outcome State Fault Refusal :=
  .next (s.serve .clearFault (inRun ownClearFault))

end Sys2Proof.Machine
end

