-- ==== Sys2Proof/Machine/Configure.lean ====
section
/-! DEFINITION. The configuration store's requests (08): the meanings of CONFIG_WRITE, CONFIG_READ,
COMMIT and REOPEN. -/

namespace Sys2Proof.Machine

/-- CONFIG_WRITE at its owner, in CONFIG (R151). -/
def ownConfigWrite (s : State) (p : List Byte) : Reply :=
  match p with
  | [item, cam, hi, lo] =>
    match ItemRef.ofBytes item cam with
    | some i =>
      if i.lawful (fromBe16 hi lo) then grant { s with items := s.items.write (fromBe16 hi lo) i } []
      else refuse s .badField
    | none => refuse s .badField
  | _ => refuse s .badLength

/-- CONFIG_WRITE (R151). -/
def execConfigWrite (s : State) : Host.Outcome State Fault Refusal :=
  .next (s.serve .configWrite (inConfig ownConfigWrite))

/-- CONFIG_READ at its owner, in both modes (R152). -/
def ownConfigRead (s : State) (p : List Byte) : Reply :=
  match p with
  | [item, cam] =>
    match ItemRef.ofBytes item cam with
    | some i => grant s (be16 (s.items.read i))
    | none => refuse s .badField
  | _ => refuse s .badLength

/-- CONFIG_READ (R152). -/
def execConfigRead (s : State) : Host.Outcome State Fault Refusal :=
  .next (s.serve .configRead ownConfigRead)

/-! ## COMMIT -/

/-- Two windows of one width share an angle (R155). -/
def startsShare (width a b : Nat) : Bool := decide (angleSub b a < width ∨ angleSub a b < width)

/-- No two of the windows with these starts share an angle (R155). -/
def startsDisjoint (width : Nat) : List Nat → Bool
  | [] => true
  | a :: rest => rest.all (fun b => !startsShare width a b) && startsDisjoint width rest

/-- The starts of a cam's windows (R24, R155). -/
def CamItems.starts (k : CamItems) : List Nat := k.bases.map (windowStart k)

/-- Check 4: no two windows of the cam share an angle (R155). -/
def CamItems.windowsDisjoint (k : CamItems) : Bool := startsDisjoint (windowWidth k) k.starts

/-- Check 5: no window shares an angle with any window shifted by 5,760 (R155). -/
def CamItems.halvesDistinct (k : CamItems) : Bool :=
  k.starts.all (fun a => k.starts.all (fun b => !startsShare (windowWidth k) (shifted a) b))

/-- The enabled cams, in ascending order (R154). -/
def Items.enabledCams (x : Items) : List Cam := Cam.all.filter (fun c => (x.cam.get c).enable)

/-- A check made on each enabled cam in turn: the first that fails (R154). -/
def Items.eachEnabled (x : Items) (code : Nat) (check : CamItems → Bool) : Option (Nat × Option Cam) :=
  (x.enabledCams.find? (fun c => !check (x.cam.get c))).map (fun c => (code, some c))

/-- A check made once (R154). -/
def failUnless (code : Nat) (cam : Option Cam) (check : Bool) : Option (Nat × Option Cam) :=
  if check then none else some (code, cam)

/-- The difference of two currents, without its sign. -/
def currentGap (a b : Nat) : Nat := (a - b) + (b - a)

/-- The validation checks of COMMIT in the order of their numbers (R154). -/
def Items.checks (x : Items) : List (Option (Nat × Option Cam)) :=
  let g := x.global
  let ref := x.cam.get g.referenceCam
  [ failUnless 1 none (!x.enabledCams.isEmpty),
    failUnless 2 (some g.referenceCam) ref.enable,
    x.eachEnabled 3 (fun k => inRange 1 4 k.windowCount),
    x.eachEnabled 4 CamItems.windowsDisjoint,
    failUnless 5 (some g.referenceCam) ref.halvesDistinct,
    failUnless 6 none (decide (g.suppressRpm < g.releaseRpm)),
    x.eachEnabled 7 (fun k => decide (k.holdCurrent ≤ k.imax ∧ k.releaseCurrent ≤ k.imax)),
    x.eachEnabled 8 (fun k => decide (currentGap k.releaseCurrent k.holdCurrent ≤ k.ilim)),
    x.eachEnabled 9 (fun k => decide (¬ (k.unlockThreshold = 0 ∧ k.unlockCycles = 0))),
    x.eachEnabled 10 (fun k => decide (k.unlockCycles < k.releaseLimit)),
    x.eachEnabled 11 (fun k => decide (k.defaultTarget ≤ k.travel ∧ k.parkBand < k.travel)),
    x.eachEnabled 12 (fun k => decide (g.learnLimit ≤ k.margin)),
    x.eachEnabled 13 (fun k => decide (k.unlockThreshold < k.travel)) ]

/-- The detail code and the cam of the first check that fails; none when every check passes (R154). -/
def Items.validate (x : Items) : Option (Nat × Option Cam) := x.checks.findSome? id

/-- The CONFIG_INVALID payload: the detail code, and the cam index or 0xFF for none (R154, R170). -/
def invalidPayload (code : Nat) (cam : Option Cam) : List Byte :=
  [u8 code, u8 ((cam.map Cam.index).getD 0xFF)]

/-- A lane at a successful COMMIT (R23, R42, R156): d, the window of d and L are kept, the flags clear,
and an enabled cam's window list is built. -/
def Lane.commit (l : Lane) (k : CamItems) : Lane :=
  { l with windows := if k.enable then buildWindows k else [], missRun := 0, valid := false }

/-- A sequencer at a successful COMMIT (R94): an empty cause set, runs and count 0, flags reset and the
learn IDLE, its last result kept; an enabled cam enters PARKED or FORCED. -/
def Sequencer.commit (q : Sequencer) (enable : Bool) (line : ParkLine) : Sequencer :=
  { q.resetRuns with
    state := if enable then line.restState else .disabled
    causes := .empty
    releaseCount := 0
    learning := false }

/-- A cam's blocks at a successful COMMIT (R156). -/
def CamState.commit (k : CamState) (x : CamItems) (line : ParkLine) : CamState :=
  { k with lane := k.lane.commit x, arbiter := .reset, phaser := k.phaser.commit x.enable line }

/-- A successful COMMIT puts every block into RUN (R156), at an instant from which the link timer (R173)
and the PWM timebase (R137) run. A sequencer that has yet to take an assertion goes on waiting: DESIGN CHOICE,
log 29. -/
def State.commit (s : State) (t : Nat) : State :=
  let u := s.eachCam (fun c v => v.setCam c ((v.cam c).commit (v.cfg c) v.parkLine))
  { u with
    mode := .run
    tracker := ⟨.stopped, 0⟩
    timebase := some ⟨t, 0⟩
    link := { u.link with timer := some t } }

/-- COMMIT at its owner, in CONFIG (R154). -/
def ownCommit (t : Nat) (s : State) (p : List Byte) : Reply :=
  match p with
  | [] =>
    match s.items.validate with
    | none => grant (s.commit t) []
    | some (code, cam) => ⟨s, .configInvalid, invalidPayload code cam⟩
  | _ => refuse s .badLength

/-- COMMIT (R156). -/
def execCommit (t : Nat) (s : State) : Host.Outcome State Fault Refusal :=
  .next (s.at t (fun u => u.serve .commit (inConfig (ownCommit t))))

/-! ## REOPEN -/

/-- A cam at a successful REOPEN (R158): a BUSY learn is aborted, the cam enters DISABLED with an empty
cause set, the arbiter clears and its suppression flag is set, the lane stops being live with L = 0,
and the channel is re-armed. -/
def State.disableCam (s : State) (c : Cam) : State :=
  let u := ((s.abortLearn c).standDown c .disabled).setCauses c .empty
  let k := u.cam c
  u.setCam c
    { k with
      arbiter := .reset
      lane := { k.lane with windows := [], missRun := 0, offset := 0 }
      channel := k.channel.rearm u.parkLine }

/-- A successful REOPEN returns the part to CONFIG (R158). A sequencer that has yet to take an assertion of the
park line goes on waiting, in CONFIG and over the next COMMIT; the manual does not say. DESIGN CHOICE, log 29. -/
def State.reopen (s : State) : State :=
  let u := ({ s with table := purge s.table }).eachCam (fun c v => v.disableCam c)
  { u with
    timebase := none
    tracker := ⟨.stopped, 0⟩
    link := { u.link with timer := none }
    mode := .config }

/-- REOPEN at its owner, in RUN (R157): refused with NOT_READY unless the tracker is STOPPED. -/
def ownReopen (s : State) (p : List Byte) : Reply :=
  match p with
  | [] => if s.tracker.sync = .stopped then grant s.reopen [] else refuse s .notReady
  | _ => refuse s .badLength

/-- REOPEN (R158). -/
def execReopen (s : State) : Host.Outcome State Fault Refusal := .next (s.serve .reopen (inRun ownReopen))

end Sys2Proof.Machine
end

