-- ==== Sys2Proof/Machine/Crank.lean ====
section
/-! DEFINITION. The crank tracker (01) and the meanings of the engine's events: CRK_EDGE, STALL,
CAM_EDGE and WINDOW_CLOSE. -/

namespace Sys2Proof.Machine

/-! ## Teeth, periods and the gap -/

/-- The pitch P, 5,760 / N (R1). -/
def GlobalItems.pitchAngle (g : GlobalItems) : Nat := 5760 / g.teeth

/-- The position of the last tooth before the gap, N − M − 1 (R8). -/
def GlobalItems.lastPosition (g : GlobalItems) : Nat := g.teeth - g.missing - 1

/-- An edge comes too soon after the last accepted tooth: less than floor(T_p / 4) ticks (R3). -/
def tooSoon (pitch last t : Nat) : Bool := decide (t - last < pitch / 4)

/-- The tooth period T, held as 1 to 16,777,215 (R4). -/
def toothPeriod (last t : Nat) : Nat := clamp (t - last) 1 16777215

/-- A period is long relative to T_prev: 2T ≥ 3T_prev for one missing tooth, T ≥ 2T_prev for two
(R5). -/
def longPeriod (missing period prev : Nat) : Bool :=
  if missing = 1 then decide (3 * prev ≤ 2 * period) else decide (2 * prev ≤ period)

/-- The pitch period derived from a tooth period (R4). -/
def pitchPeriod (missing period : Nat) (gap : Bool) : Nat :=
  if gap then period / (missing + 1) else period

/-- The engine speed at a tooth with this pitch period (R12); with T_p = 0 the quotient is a free value
(log 7). -/
def engineSpeed (g : GlobalItems) (pitch : Nat) : Nat :=
  min (if pitch = 0 then Config.speedOfZeroPitch g.teeth else 600000000 / (pitch * g.teeth)) 65535

/-! ## The angle clock -/

/-- The hold limit P_lim after a tooth at a position (R13). -/
def GlobalItems.holdLimit (g : GlobalItems) (position : Nat) : Nat :=
  if position = g.lastPosition then g.pitchAngle * (g.missing + 1) else g.pitchAngle

/-- The clock's step since the last tooth, held at P_lim − 1 (R13): none at the tooth's own instant, where
the clock takes the tooth's angle (R13, R14); later, with T_p = 0, the quotient is a free value (log 8). -/
def clockStep (g : GlobalItems) (k : Tooth) (t : Nat) : Nat :=
  let elapsed := t - k.lastTooth
  min
    (if elapsed = 0 then 0
     else if k.pitch = 0 then Config.clockStepOfZeroPitch elapsed g.pitchAngle
     else elapsed * g.pitchAngle / k.pitch)
    (g.holdLimit k.position - 1)

/-- The angle clock at an instant, reduced modulo a revolution or a cycle (R13, R14). -/
def clockAt (g : GlobalItems) (k : Tooth) (modulus t : Nat) : Nat :=
  (k.angle + clockStep g k t) % modulus

/-! ## The tracker's transitions -/

/-- The other half (R9). -/
def Half.flip : Half → Half
  | .first => .second
  | .second => .first

/-- The cycle angle at which a half begins (R9). -/
def Half.angle : Half → Nat
  | .first => 0
  | .second => 5760

/-- The tracker's sync state and speed replaced. -/
def State.setTracker (s : State) (sync : Sync) (speed : Nat) : State :=
  { s with tracker := ⟨sync, speed⟩ }

/-- The search a tooth starts: it is the first tooth, and no period is measured (R6, R10). -/
def Search.start (t : Nat) : Search := ⟨t, 0, none, none, none⟩

/-- A tooth accepted in SEEKING (R7): it measures a period, and the one that ends the first recognised
gap is position 0 in CRANK_SYNC. A period is a gap only from the second of the search on (R5). -/
def State.seekTooth (s : State) (q : Search) (t : Nat) : State :=
  let g := s.items.global
  let period := toothPeriod q.lastTooth t
  let periods := min 2 (q.periods + 1)
  match q.pitch with
  | some prev =>
    if 2 ≤ periods ∧ longPeriod g.missing period prev = true then
      let pitch := pitchPeriod g.missing period true
      s.setTracker (.crankSync ⟨t, period, pitch, prev, 0, 0⟩) (engineSpeed g pitch)
    else s.setTracker (.seeking ⟨t, periods, some period, some period, some prev⟩) s.tracker.speed
  | none => s.setTracker (.seeking ⟨t, periods, some period, some period, none⟩) s.tracker.speed

/-- A gap error (R10), without the announcement of a loss. -/
def State.gapError (s : State) (t : Nat) : State :=
  ((s.count .gapErrors).notify .syncLost).setTracker (.seeking (.start t)) 0

/-- The tooth after `k`, taken at `t` with or without a gap, its angle not yet set (R4, R8). -/
def nextTooth (g : GlobalItems) (k : Tooth) (t : Nat) (gap : Bool) : Tooth :=
  let period := toothPeriod k.lastTooth t
  { lastTooth := t, period := period, pitch := pitchPeriod g.missing period gap, prevPitch := k.pitch,
    position := if gap then 0 else k.position + 1, angle := 0 }

/-- The gap test at an accepted tooth after `k` (R5). -/
def gapAfter (g : GlobalItems) (k : Tooth) (t : Nat) : Bool :=
  longPeriod g.missing (toothPeriod k.lastTooth t) k.pitch

/-- The gap is due after `k` (R8). -/
def gapDue (g : GlobalItems) (k : Tooth) : Bool := decide (k.position = g.lastPosition)

/-- A tooth taken in CRANK_SYNC (R8, R9). -/
def State.crankTooth (s : State) (k : Tooth) (t : Nat) (gap : Bool) : State :=
  let g := s.items.global
  let n := nextTooth g k t gap
  s.setTracker (.crankSync { n with angle := n.position * g.pitchAngle }) (engineSpeed g n.pitch)

/-- The mismatch run after a cycle closed with these flags (R19). -/
def Cycle.closedRun (y : Cycle) : Nat := if y.mismatch && !y.refHit then y.mismatchRun + 1 else 0

/-- The tracker closes the cycle a mark ends (R19): at a run of 2 phase is lost. -/
def State.closeCycle (s : State) : State :=
  match s.tracker.sync with
  | .engineSync k y =>
    if y.closedRun = 2 then
      (((s.count .phaseLosses).notify .syncLost).setTracker (.crankSync { k with angle := k.angle % 5760 })
        s.tracker.speed).loseSync
    else
      s.setTracker
        (.engineSync k { y with mismatchRun := y.closedRun, refHit := false, mismatch := false })
        s.tracker.speed
  | _ => s

/-- A cycle mark (R11): CYCLES, the demand table, the sequencers, and the tracker's own accounting. -/
def State.issueMark (s : State) : State :=
  ((s.countCycle.countLifetimes).eachCam (fun c u => u.cycleMark c)).closeCycle

/-- A tooth taken in ENGINE_SYNC (R8, R9): its position and angle first, with the windows its step
closes (R17), then the cycle mark if it makes the half 0 (R11, R21; log 12). -/
def State.engineTooth (s : State) (k : Tooth) (y : Cycle) (t : Nat) (gap : Bool) : State :=
  let g := s.items.global
  let n := nextTooth g k t gap
  let half := if gap then y.half.flip else y.half
  let angle := half.angle + n.position * g.pitchAngle
  let u := s.setTracker
    (.engineSync { n with angle := angle } { y with half := half, coveredFrom := angle })
    (engineSpeed g n.pitch)
  let v := (u.closeAll y.coveredFrom angle).newPitch
  if gap ∧ half = .first then v.issueMark else v

/-- An edge of the set polarity while the tracker is not held (R3, R6 to R10). -/
def State.crankEdge (s : State) (t : Nat) : State :=
  let g := s.items.global
  match s.tracker.sync with
  | .stopped => s.setTracker (.seeking (.start t)) 0
  | .seeking q =>
    if q.pitch.any (fun p => tooSoon p q.lastTooth t) then s.count .noiseRejects else s.seekTooth q t
  | .crankSync k =>
    if tooSoon k.pitch k.lastTooth t then s.count .noiseRejects
    else if gapAfter g k t = gapDue g k then s.crankTooth k t (gapAfter g k t)
    else s.gapError t
  | .engineSync k y =>
    if tooSoon k.pitch k.lastTooth t then s.count .noiseRejects
    else if gapAfter g k t = gapDue g k then s.engineTooth k y t (gapAfter g k t)
    else (s.gapError t).loseSync

/-- The time of the last accepted tooth, from which the stall timer counts; none in STOPPED, where it
does not run (R6, R20). -/
def Sync.lastTooth : Sync → Option Nat
  | .stopped => none
  | .seeking q => some q.lastTooth
  | .crankSync k => some k.lastTooth
  | .engineSync k _ => some k.lastTooth

/-- The expiry of the stall timer (R20). -/
def State.stalled (s : State) : State :=
  let u := (s.count .stalls).setTracker .stopped 0
  match s.tracker.sync with
  | .stopped => s
  | .seeking _ => u
  | .crankSync _ => u.notify .engineStopped
  | .engineSync _ _ => (u.notify .engineStopped).loseSync

/-! ## Cam edges -/

/-- Entry to ENGINE_SYNC at a reference-cam edge whose candidate `a` of half `h` lies in a window
(R16). -/
def State.gainSync (s : State) (k : Tooth) (c : Cam) (h : Half) (a : Nat) : State :=
  let u := (s.setTracker
    (.engineSync { k with angle := h.angle + k.angle }
      { half := h, coveredFrom := a, refHit := true, mismatch := false, mismatchRun := 0 })
    s.tracker.speed).notify .engineSynced
  (u.gainLanes a).classify c a

/-- Phase resolution at a qualifying reference-cam edge in CRANK_SYNC (R15). -/
def State.resolve (s : State) (k : Tooth) (c : Cam) (t : Nat) : Host.Outcome State Fault Refusal :=
  let a := clockAt s.items.global k 5760 t
  let ws := (s.cam c).lane.windows
  match (windowAt ws a).isSome, (windowAt ws (a + 5760)).isSome with
  | true, false => .next (s.gainSync k c .first a)
  | false, true => .next (s.gainSync k c .second (a + 5760))
  | false, false => .next (s.count (.ofCam c .stray))
  | true, true => .fault .ambiguousHalf

/-- The clock's motion by interpolation since the last tooth, or since the resolving edge, covers an angle
(R16, R17). -/
def interpolates (k : Tooth) (y : Cycle) (new a : Nat) : Bool :=
  decide (angleSub y.coveredFrom k.angle ≤ angleSub new k.angle) && covers y.coveredFrom new a

/-- The cycle angle an edge is converted to in ENGINE_SYNC (R14, R27): the angle clock's at its instant.
Where the clock's motion of that very tick closes the window in which the clock stood before it, and the
close has not been taken, the edge is taken first, before the motion: it keeps the angle before it, so that
it lies in the window (R38). The manual does not say at which angle; DESIGN CHOICE, log 30. -/
def edgeAngle (g : GlobalItems) (ws : List Window) (k : Tooth) (y : Cycle) (t : Nat) : Nat :=
  let new := clockAt g k 11520 t
  let old := clockAt g k 11520 (t - 1)
  if k.lastTooth < t ∧
      ws.any (fun w => w.contains old && !w.passed && interpolates k y new w.closeAngle) = true then old
  else new

/-- An edge of a live lane in ENGINE_SYNC: converted (R27), classified (R28), and for the reference cam
reported to the tracker (R18). -/
def State.engineEdge (s : State) (k : Tooth) (y : Cycle) (c : Cam) (t : Nat) : State :=
  let a := edgeAngle s.items.global (s.cam c).lane.windows k y t
  let u :=
    if c = s.items.global.referenceCam then
      s.setTracker (.engineSync k (y.note (edgeReport (s.cam c).lane.windows a))) s.tracker.speed
    else s
  u.classify c a

/-- An edge of the set polarity on a live lane, by the sync state (R26). A reference-cam edge taken after a
cycle mark of its tick that lost phase finds CRANK_SYNC and resolves phase, as R19 says; R90 and R117 say of an
edge taken after a loss of its tick that it is not measured. DESIGN CHOICE, log 32. -/
def State.camEdge (s : State) (c : Cam) (t : Nat) : Host.Outcome State Fault Refusal :=
  match s.tracker.sync with
  | .stopped | .seeking _ => .next s
  | .crankSync k => if c = s.items.global.referenceCam then s.resolve k c t else .next s
  | .engineSync k y => .next (s.engineEdge k y c t)

/-- The close of a cam's window by interpolation (R17): the clock has moved forward past its close angle
since the last tooth, or since the resolving edge, and the close has not been taken. -/
def State.interpolatedClose (s : State) (c : Cam) (j t : Nat) : State :=
  match s.tracker.sync with
  | .engineSync k y =>
    let new := clockAt s.items.global k 11520 t
    if angleSub y.coveredFrom k.angle ≤ angleSub new k.angle then s.closeBy y.coveredFrom new c j else s
  | _ => s

/-! ## The meanings -/

/-- CRK_EDGE (R2, R3): in CONFIG the tracker is held and disregards CRK (R1); an edge of the other
polarity is disregarded. -/
def execCrkEdge (edge : Edge) (t : Nat) (s : State) : Host.Outcome State Fault Refusal :=
  .next (s.at t (fun u =>
    if u.mode = .run ∧ edge = u.items.global.crankEdge then u.crankEdge t else u))

/-- STALL (R20): the timer, running since the last accepted tooth, has reached STALL_MS. -/
def execStall (t : Nat) (s : State) : Host.Outcome State Fault Refusal :=
  .next (s.at t (fun u =>
    if u.tracker.sync.lastTooth.any (fun t0 => expired t0 (msTicks u.items.global.stallMs) t) then u.stalled
    else u))

/-- CAM_EDGE (R23, R26): a lane that is not live takes no edge, and one of the other polarity is
disregarded. -/
def execCamEdge (cam : Cam) (edge : Edge) (t : Nat) (s : State) : Host.Outcome State Fault Refusal :=
  if t < s.now then .next s
  else
    let u : State := { s with now := t }
    if u.enabled cam = true ∧ edge = (u.cfg cam).edge then u.camEdge cam t else .next u

/-- WINDOW_CLOSE (R17, R36). -/
def execWindowClose (cam : Cam) (window t : Nat) (s : State) : Host.Outcome State Fault Refusal :=
  .next (s.at t (fun u => u.interpolatedClose cam window t))

end Sys2Proof.Machine
end

