-- ==== Sys2Proof/Machine/Demands.lean ====
section
/-! DEFINITION. The demand table's requests (section 3.5): the meanings of POST, AMEND, RENEW, RETIRE,
RETIRE_OWNER, QUERY and SCAN, with the payloads of R170. Every request is checked in R50's order: mode,
payload length, handle, field values, free slot. -/

namespace Sys2Proof.Machine

/-! ## Parts of a payload -/

/-- A speed band, if flagged, read off the front of the bytes; none if the bytes are too few (R170). -/
def takeBand (flagged : Bool) (p : List Byte) : Option (Option (Nat × Nat) × List Byte) :=
  if flagged then
    match p with
    | a :: b :: c :: d :: rest => some (some (fromBe16 a b, fromBe16 c d), rest)
    | _ => none
  else some (none, p)

/-- A one-byte part, if flagged, read off the front of the bytes; none if there is none (R170). -/
def takeByte (flagged : Bool) (p : List Byte) : Option (Option Nat × List Byte) :=
  if flagged then
    match p with
    | a :: rest => some (some a.toNat, rest)
    | [] => none
  else some (none, p)

/-! ## POST -/

/-- What a POST payload carries (R51). -/
structure PostForm where
  owner    : Nat
  cls      : Nat
  cams     : Byte
  rank     : Nat
  first    : Nat
  second   : Nat
  lifetime : Nat
  flags    : Byte
  band     : Option (Nat × Nat)
  cap      : Option Nat
  deriving DecidableEq, Repr

/-- A POST payload read by its layout, if its length is the one its presence flags call for (R51,
R170). -/
def parsePost (p : List Byte) : Option PostForm :=
  match p with
  | owner :: cls :: cams :: rank :: f1 :: f0 :: s1 :: s0 :: life :: flags :: rest =>
    match takeBand (flags.getLsbD 0) rest with
    | none => none
    | some (band, rest') =>
      match takeByte (flags.getLsbD 1) rest' with
      | some (cap, []) =>
        some
          { owner := owner.toNat, cls := cls.toNat, cams := cams, rank := rank.toNat,
            first := fromBe16 f1 f0, second := fromBe16 s1 s0, lifetime := life.toNat, flags := flags,
            band := band, cap := cap }
      | _ => none
  | _ => none

/-- A rank lawful for a class: at most 15, and not 0 for a BLEND (R51). -/
def rankLawful (k : Class) (rank : Nat) : Bool := decide (rank ≤ 15 ∧ ¬ (k = .blend ∧ rank = 0))

/-- First and second values lawful for a class (R51). -/
def valuesLawful (k : Class) (first second : Nat) : Bool :=
  match k with
  | .limit => decide (first ≤ 2047 ∧ second ≤ 2047 ∧ first ≤ second)
  | .override | .blend => decide (first ≤ 2047 ∧ second = 0)

/-- A speed band is in order: its low speed does not exceed its high speed (R51). -/
def bandLawful (band : Option (Nat × Nat)) : Bool := band.all (fun b => decide (b.1 ≤ b.2))

/-- A cam set is a non-empty subset of the cams enabled at the most recent COMMIT (R46, R51). -/
def camSetLawful (s : State) (b : Byte) : Bool :=
  decide (b ≠ 0#8 ∧ b.toNat < 16) && Cam.all.all (fun c => !(camSetOf b).get c || s.enabled c)

/-- A POST's fields are lawful (R51). -/
def PostForm.lawful (f : PostForm) (s : State) (k : Class) : Bool :=
  decide (f.owner ≤ 15) && camSetLawful s f.cams && rankLawful k f.rank
    && valuesLawful k f.first f.second && bandLawful f.band
    && f.cap.all (fun n => decide (k = .override ∧ n ≠ 0)) && decide (f.flags.toNat < 4)

/-- The record a POST creates (R52). -/
def PostForm.record (f : PostForm) (k : Class) : Record where
  owner := f.owner
  cams := camSetOf f.cams
  cls := k
  rank := f.rank
  first := f.first
  second := f.second
  lifetime := f.lifetime
  remaining := f.lifetime
  band := f.band
  cap := f.cap
  outcomes := .const .fresh

/-- The generation of a slot. -/
def generationOf (t : List Slot) (slot : Nat) : Nat := (t[slot]?.map Slot.generation).getD 0

/-- A lawful POST: the record goes into the lowest free slot, or is refused with TABLE_FULL (R52). -/
def createRecord (s : State) (r : Record) : Reply :=
  match lowestFree s.table with
  | some slot =>
    grant { s with table := putRecord s.table slot r } [u8 (handleOf slot (generationOf s.table slot))]
  | none => refuse (s.count .fullRefusals) .tableFull

/-- POST at its owner, in RUN (R50 to R52). -/
def ownPost (s : State) (p : List Byte) : Reply :=
  match parsePost p with
  | none => refuse s .badLength
  | some f =>
    match Class.ofCode f.cls with
    | none => refuse s .badField
    | some k => if f.lawful s k then createRecord s (f.record k) else refuse s .badField

/-- POST (R52). -/
def execPost (s : State) : Host.Outcome State Fault Refusal := .next (s.serve .post (inRun ownPost))

/-! ## AMEND -/

/-- What an AMEND payload carries (R53): the parts its change flags call for. -/
structure AmendForm where
  handle   : Nat
  flags    : Byte
  value    : Option (Nat × Nat)
  rank     : Option Nat
  lifetime : Option Nat
  band     : Option (Nat × Nat)
  cap      : Option Nat
  deriving DecidableEq, Repr

/-- An AMEND payload read by its layout, if its length is the one its change flags call for (R53,
R170): value, rank, lifetime, band, cap. -/
def parseAmend (p : List Byte) : Option AmendForm :=
  match p with
  | handle :: flags :: rest =>
    (takeBand (flags.getLsbD 0) rest).bind fun (value, rest) =>
    (takeByte (flags.getLsbD 1) rest).bind fun (rank, rest) =>
    (takeByte (flags.getLsbD 2) rest).bind fun (lifetime, rest) =>
    (takeBand (flags.getLsbD 3) rest).bind fun (band, rest) =>
    (takeByte (flags.getLsbD 5) rest).bind fun (cap, rest) =>
    match rest with
    | [] => some ⟨handle.toNat, flags, value, rank, lifetime, band, cap⟩
    | _ :: _ => none
  | _ => none

/-- An AMEND's fields are lawful for the class of the record it names (R53). -/
def AmendForm.lawful (f : AmendForm) (k : Class) : Bool :=
  !f.flags.getLsbD 7 && !(f.flags.getLsbD 3 && f.flags.getLsbD 4)
    && !(f.flags.getLsbD 5 && f.flags.getLsbD 6)
    && f.value.all (fun v => valuesLawful k v.1 v.2) && f.rank.all (rankLawful k) && bandLawful f.band
    && f.cap.all (fun n => decide (n ≠ 0))
    && (!(f.flags.getLsbD 5 || f.flags.getLsbD 6) || decide (k = .override))

/-- An optional part after an AMEND: set, removed, or as it was (R54). -/
def amendPart {α : Type} (set : Option α) (remove : Bool) (old : Option α) : Option α :=
  match set with
  | some a => some a
  | none => if remove then none else old

/-- The record after a lawful AMEND (R54): the flagged changes, remaining set with a lifetime, and every
outcome PENDING and clear. -/
def AmendForm.apply (f : AmendForm) (r : Record) : Record :=
  Record.withdraw
    { r with
      first := (f.value.map Prod.fst).getD r.first
      second := (f.value.map Prod.snd).getD r.second
      rank := f.rank.getD r.rank
      lifetime := f.lifetime.getD r.lifetime
      remaining := f.lifetime.getD r.remaining
      band := amendPart f.band (f.flags.getLsbD 4) r.band
      cap := amendPart f.cap (f.flags.getLsbD 6) r.cap }

/-- AMEND at its owner, in RUN (R50, R53, R54). -/
def ownAmend (s : State) (p : List Byte) : Reply :=
  match parseAmend p with
  | none => refuse s .badLength
  | some f =>
    match lookup s.table f.handle with
    | none => refuse s .stale
    | some r =>
      if f.lawful r.cls then grant { s with table := putRecord s.table (f.handle % 32) (f.apply r) } []
      else refuse s .badField

/-- AMEND (R54). -/
def execAmend (s : State) : Host.Outcome State Fault Refusal := .next (s.serve .amend (inRun ownAmend))

/-! ## RENEW -/

/-- The record renewed: remaining set to its lifetime, which is 0 for a standing record (R55). -/
def Record.renewed (r : Record) : Record := { r with remaining := r.lifetime }

/-- One handle of a RENEW (R55): the table after it, and the per-handle result. -/
def renewOne (t : List Slot) (h : Nat) : List Slot × Result :=
  match lookup t h with
  | some r => (putRecord t (h % 32) r.renewed, .ok)
  | none => (t, .stale)

/-- The handles of a RENEW one after another, in request order (R55). -/
def renewAll (t : List Slot) : List Byte → List Slot × List Byte
  | [] => (t, [])
  | b :: rest =>
    let x := renewOne t b.toNat
    let y := renewAll x.1 rest
    (y.1, x.2.code :: y.2)

/-- RENEW at its owner, in RUN (R50, R55). -/
def ownRenew (s : State) (p : List Byte) : Reply :=
  if 1 ≤ p.length ∧ p.length ≤ 8 then
    grant { s with table := (renewAll s.table p).1 } (renewAll s.table p).2
  else refuse s .badLength

/-- RENEW (R55). -/
def execRenew (s : State) : Host.Outcome State Fault Refusal := .next (s.serve .renew (inRun ownRenew))

/-! ## RETIRE and RETIRE_OWNER -/

/-- RETIRE at its owner, in RUN (R50, R56). -/
def ownRetire (s : State) (p : List Byte) : Reply :=
  match p with
  | [b] =>
    match lookup s.table b.toNat with
    | some _ => grant { s with table := s.table.modify (b.toNat % 32) Slot.retire } []
    | none => refuse s .stale
  | _ => refuse s .badLength

/-- RETIRE (R56). -/
def execRetire (s : State) : Host.Outcome State Fault Refusal := .next (s.serve .retire (inRun ownRetire))

/-- The record belongs to an owner. -/
def Record.ownedBy (owner : Nat) (r : Record) : Bool := decide (r.owner = owner)

/-- RETIRE_OWNER at its owner, in RUN (R50, R57). -/
def ownRetireOwner (s : State) (p : List Byte) : Reply :=
  match p with
  | [b] =>
    if 15 < b.toNat then refuse s .badField
    else
      grant { s with table := retireWhere (Record.ownedBy b.toNat) s.table }
        [u8 (s.table.countP (Slot.holds (Record.ownedBy b.toNat)))]
  | _ => refuse s .badLength

/-- RETIRE_OWNER (R57). -/
def execRetireOwner (s : State) : Host.Outcome State Fault Refusal :=
  .next (s.serve .retireOwner (inRun ownRetireOwner))

/-! ## QUERY and SCAN -/

/-- The second value as QUERY reports it: 0 for an OVERRIDE or a BLEND (R58). -/
def Record.reportedSecond (r : Record) : Nat :=
  match r.cls with
  | .limit => r.second
  | .override | .blend => 0

/-- The outcome list: one entry per cam of the cam set, in cam order (R48, R58). -/
def Record.outcomeList (r : Record) : List Outcome :=
  (Cam.all.filter (fun c => r.cams.get c)).map (fun c => r.outcomes.get c)

/-- The QUERY payload (R58, R170). -/
def queryPayload (h : Byte) (r : Record) : List Byte :=
  [h, u8 r.owner, u8 r.cls.code, camSetByte r.cams, u8 r.rank] ++ be16 r.first ++ be16 r.reportedSecond
    ++ [u8 r.lifetime, u8 r.remaining, u8 (r.band.isSome.toNat + 2 * r.cap.isSome.toNat)]
    ++ be16 (r.band.getD (0, 0)).1 ++ be16 (r.band.getD (0, 0)).2 ++ [u8 (r.cap.getD 0)]
    ++ r.outcomeList.map Outcome.byte

/-- QUERY at its owner, in RUN (R50, R58). -/
def ownQuery (s : State) (p : List Byte) : Reply :=
  match p with
  | [b] =>
    match lookup s.table b.toNat with
    | some r => grant s (queryPayload b r)
    | none => refuse s .stale
  | _ => refuse s .badLength

/-- QUERY (R58). -/
def execQuery (s : State) : Host.Outcome State Fault Refusal := .next (s.serve .query (inRun ownQuery))

/-- The records a SCAN selector selects: those of an owner 0 to 15, or all for 0xFF; none if the
selector is neither (R59, R170). -/
def selected (t : List Slot) (selector : Byte) : Option (List Entry) :=
  if selector.toNat ≤ 15 then
    some ((entries t).filter (fun x => decide (x.record.owner = selector.toNat)))
  else if selector = 0xFF#8 then some (entries t)
  else none

/-- SCAN at its owner, in RUN (R50, R59). -/
def ownScan (s : State) (p : List Byte) : Reply :=
  match p with
  | [b] =>
    match selected s.table b with
    | some es => grant s (u8 es.length :: es.map (fun x => u8 x.handle))
    | none => refuse s .badField
  | _ => refuse s .badLength

/-- SCAN (R59). -/
def execScan (s : State) : Host.Outcome State Fault Refusal := .next (s.serve .scan (inRun ownScan))

end Sys2Proof.Machine
end

