-- ==== Sys2Proof/Machine/Status.lean ====
section
/-! DEFINITION. The notice and counter unit's requests (10): the meanings of ENGINE_STATUS, CAM_STATUS,
NOTICE_READ, NOTICE_MASK and COUNTERS_READ, with the payloads of R182. -/

namespace Sys2Proof.Machine

/-- The four suppression flags (R74). -/
def State.suppressionFlags (s : State) : PerCam Bool :=
  ⟨(s.cam .fi).arbiter.suppressed, (s.cam .fe).arbiter.suppressed, (s.cam .ri).arbiter.suppressed,
   (s.cam .re).arbiter.suppressed⟩

/-- The ENGINE_STATUS payload (R174, R182). -/
def engineStatusPayload (s : State) : List Byte :=
  [u8 s.mode.code, u8 s.tracker.sync.code] ++ be16 s.tracker.speed ++ be32 s.counters.cycles
    ++ [u8 s.parkLine.code, camSetByte s.suppressionFlags]

/-- ENGINE_STATUS at its owner (R174). -/
def ownEngineStatus (s : State) (p : List Byte) : Reply :=
  match p with
  | [] => grant s (engineStatusPayload s)
  | _ => refuse s .badLength

/-- ENGINE_STATUS (R174). -/
def execEngineStatus (s : State) : Host.Outcome State Fault Refusal :=
  .next (s.serve .engineStatus ownEngineStatus)

/-- A phaser state's code (R182). -/
def PhaserState.code : PhaserState → Nat
  | .disabled => 0
  | .parked => 1
  | .releasing => 2
  | .tracking => 3
  | .forced => 4
  | .fault => 5

/-- The fault cause set's byte (R182). -/
def CauseSet.byte (x : CauseSet) : Byte :=
  u8 (x.signal.toNat + 2 * x.overcurrent.toNat + 4 * x.openLoad.toNat + 8 * x.stuck.toNat
    + 16 * x.following.toNat)

/-- A winner's kind (R182). -/
def Winner.kind : Winner → Nat
  | .none => 0
  | .default => 1
  | .blend => 2
  | .handle _ => 3

/-- A winner's handle byte: 0 unless the kind is handle (R182). -/
def Winner.handleByte : Winner → Nat
  | .handle h => h
  | .none | .default | .blend => 0

/-- A learn result's code (R182). -/
def LearnResult.code : LearnResult → Nat
  | .none => 0
  | .done => 1
  | .failed => 2
  | .aborted => 3

/-- The CAM_STATUS payload of a cam with its items, from the current its channel senses (R175, R182). -/
def camStatusPayload (k : CamState) (x : CamItems) (sensed : Nat) : List Byte :=
  [u8 k.phaser.state.code, k.phaser.causes.byte,
   u8 (k.lane.valid.toNat + 2 * k.channel.limited.toNat + 4 * k.phaser.learning.toNat),
   u8 k.lane.dWindow]
    ++ be16s k.lane.d ++ be16s k.lane.offset ++ be16 k.arbiter.target ++ be16 k.loop.ramped
    ++ [u8 (k.arbiter.activeSlew x), u8 k.arbiter.winner.kind, u8 k.arbiter.winner.handleByte,
        u8 k.arbiter.contributors]
    ++ be16 k.arbiter.appliedFloor ++ be16 k.arbiter.appliedCeiling ++ be16 k.arbiter.speedUsed
    ++ be16 k.channel.command ++ be16 (k.channel.mean.report sensed) ++ be16s k.loop.integratorMa
    ++ [u8 k.phaser.samples] ++ be16s k.phaser.sum ++ [u8 k.phaser.lastLearn.code]

/-- The model's count of free values after a report of a channel's mean: one is drawn while the mean is
as sensed (R148; log 10). -/
def State.drawFor (s : State) (m : MeanCurrent) : State :=
  match m with
  | .asSensed => s.draw
  | .measured _ => s

/-- CAM_STATUS at its owner (R175). -/
def ownCamStatus (s : State) (p : List Byte) : Reply :=
  match p with
  | [b] =>
    match camOfIndex b.toNat with
    | some c =>
      ⟨s.drawFor (s.cam c).channel.mean, .ok,
        camStatusPayload (s.cam c) (s.cfg c) (Config.sensedCurrent s.fresh c)⟩
    | none => refuse s .badField
  | _ => refuse s .badLength

/-- CAM_STATUS (R175). -/
def execCamStatus (s : State) : Host.Outcome State Fault Refusal := .next (s.serve .camStatus ownCamStatus)

/-- NOTICE_READ at its owner (R177): every set flag is reported, and exactly those are cleared. -/
def ownNoticeRead (s : State) (p : List Byte) : Reply :=
  match p with
  | [] => grant { s with notices := 0 } (be16 s.notices.toNat)
  | _ => refuse s .badLength

/-- NOTICE_READ (R177). -/
def execNoticeRead (s : State) : Host.Outcome State Fault Refusal :=
  .next (s.serve .noticeRead ownNoticeRead)

/-- NOTICE_MASK at its owner (R178): the mask takes the value given and is returned. -/
def ownNoticeMask (s : State) (p : List Byte) : Reply :=
  match p with
  | [hi, lo] =>
    let m := BitVec.ofNat 16 (fromBe16 hi lo)
    grant { s with mask := m } (be16 m.toNat)
  | _ => refuse s .badLength

/-- NOTICE_MASK (R178). -/
def execNoticeMask (s : State) : Host.Outcome State Fault Refusal :=
  .next (s.serve .noticeMask ownNoticeMask)

/-- The counter groups (section 10.3). -/
inductive Group where
  | engine
  | ofCam (c : Cam)
  | link
  deriving DecidableEq, Repr

/-- The group a number names (section 10.3). -/
def groupOf : Nat → Option Group
  | 0 => some .engine
  | 1 => some (.ofCam .fi)
  | 2 => some (.ofCam .fe)
  | 3 => some (.ofCam .ri)
  | 4 => some (.ofCam .re)
  | 5 => some .link
  | _ => none

/-- A group's counters as COUNTERS_READ lays them out (R182). -/
def Counters.groupPayload (k : Counters) : Group → List Byte
  | .engine =>
    be32 k.cycles ++ be16 k.noiseRejects ++ be16 k.gapErrors ++ be16 k.phaseLosses ++ be16 k.stalls
  | .ofCam c =>
    be16 (k.cam.get c).edges ++ be16 (k.cam.get c).stray ++ be16 (k.cam.get c).missed
      ++ be16 (k.cam.get c).halfMismatch ++ be16 (k.cam.get c).faults
  | .link =>
    be16 k.crcErrors ++ be16 k.frameErrors ++ be16 k.lateFrames ++ be16 k.linkLosses
      ++ be16 k.lapsedDemands ++ be16 k.fullRefusals

/-- The counters with every one of a group at 0 (R180). -/
def Counters.clearGroup (k : Counters) : Group → Counters
  | .engine =>
    { k with cycles := 0, noiseRejects := 0, gapErrors := 0, phaseLosses := 0, stalls := 0 }
  | .ofCam c => { k with cam := k.cam.set c .reset }
  | .link =>
    { k with crcErrors := 0, frameErrors := 0, lateFrames := 0, linkLosses := 0, lapsedDemands := 0,
             fullRefusals := 0 }

/-- COUNTERS_READ at its owner (R180). -/
def ownCountersRead (s : State) (p : List Byte) : Reply :=
  match p with
  | [group, flag] =>
    match groupOf group.toNat with
    | some g =>
      if 1 < flag.toNat then refuse s .badField
      else
        grant (if flag.toNat = 1 then { s with counters := s.counters.clearGroup g } else s)
          (s.counters.groupPayload g)
    | none => refuse s .badField
  | _ => refuse s .badLength

/-- COUNTERS_READ (R180). -/
def execCountersRead (s : State) : Host.Outcome State Fault Refusal :=
  .next (s.serve .countersRead ownCountersRead)

end Sys2Proof.Machine
end

