-- ==== Sys2Proof/Machine/Valves.lean ====
section
/-! DEFINITION. The meanings of the valve channels' events and of the park line (07): OVERCURRENT,
PWM_PERIOD_END, DUTY_ELAPSED, PARK_LINE_ASSERT, PARKN_RISE and PARK_LINE_RELEASE. -/

namespace Sys2Proof.Machine

/-- A cam's channel replaced. -/
def State.setChannel (s : State) (c : Cam) (h : Channel) : State :=
  s.setCam c { s.cam c with channel := h }

/-- A driver fault is latched and reported to the cam's sequencer (R141, R143). -/
def State.driverFault (s : State) (c : Cam) (fault : Latch) (cause : Cause) : State :=
  (s.setChannel c ((s.cam c).channel.latchFault s.parkLine fault)).reportFault c cause

/-- The overcurrent trip level, in mA (R141). -/
def tripLevel : Nat := 2500

/-- OVERCURRENT (R141): the test is made while the switch is closed, and not while a fault is latched
(R144). -/
def execOvercurrent (cam : Cam) (current : Nat) (s : State) : Host.Outcome State Fault Refusal :=
  let h := (s.cam cam).channel
  .next (if h.switchClosed = true ∧ h.latch = .none ∧ tripLevel < current then
    s.driverFault cam .overcurrent .overcurrent else s)

/-- A period end has brought the open-load run to its qualifying number (R142, R143). -/
def Channel.qualifiesOpenLoad (h : Channel) (hz : Nat) : Bool :=
  h.wholePeriod && decide (openLoadPeriods hz ≤ h.openLoadRun)

/-- One channel's part of a period end (R137, R143). -/
def State.endPeriod (s : State) (c : Cam) (sensed choice : Nat) : State :=
  let h := (s.cam c).channel.judge sensed
  let u := s.setChannel c h
  let v :=
    if h.qualifiesOpenLoad s.items.global.pwmHz then u.driverFault c .openLoad .openLoad else u
  v.setChannel c ((v.cam c).channel.beginPeriod (min sensed 3000) choice)

/-- The present period of a timebase has ended at an instant: a period is 1 / PWM_HZ, and a second is
10,000,000 ticks (R137). -/
def Timebase.periodOver (b : Timebase) (hz t : Nat) : Bool :=
  decide ((b.periods + 1) * 10000000 ≤ (t - b.start) * hz)

/-- A duty of the present period, in tenths of a percent, has elapsed at an instant (R137). -/
def Timebase.dutyOver (b : Timebase) (hz duty t : Nat) : Bool :=
  decide ((b.periods * 1000 + duty) * 10000000 ≤ (t - b.start) * hz * 1000)

/-- A period end at every channel (R137). -/
def State.periodEnd (s : State) (b : Timebase) (means : PerCam Nat) : State :=
  let u := s.eachCam (fun c v => v.endPeriod c (means.get c) (Config.dutyChoice s.fresh c))
  { u.draw with timebase := some { b with periods := b.periods + 1 } }

/-- PWM_PERIOD_END (R137): the timebase runs and its present period is over. -/
def execPwmPeriodEnd (means : PerCam Nat) (t : Nat) (s : State) : Host.Outcome State Fault Refusal :=
  .next (s.at t (fun u =>
    match u.timebase with
    | some b => if b.periodOver u.items.global.pwmHz t then u.periodEnd b means else u
    | none => u))

/-- DUTY_ELAPSED (R137): a DRIVEN channel opens its switch; a duty of 100 % keeps it closed. -/
def execDutyElapsed (cam : Cam) (t : Nat) (s : State) : Host.Outcome State Fault Refusal :=
  .next (s.at t (fun u =>
    let h := (u.cam cam).channel
    if h.output = .driven ∧ h.switchClosed = true ∧ h.duty < 1000
        ∧ u.timebase.any (fun b => b.dutyOver u.items.global.pwmHz h.duty t) = true then
      u.setChannel cam { h with switchClosed := false }
    else u))

/-! ## The park line -/

/-- The park line becomes ASSERTED at the channels (R145): PARK_LINE is set, the outputs go OFF, and the four
sequencers are told of it. -/
def State.assertLine (s : State) : State :=
  (({ s with parkLine := .asserted, told := .const true }).notify .parkLine).followPark

/-- The sequencer of a cam takes the assertion it was told of (R106); a line that has been released
meanwhile then moves the cam on to PARKED (R107). Log 29. -/
def State.takeAssertion (c : Cam) (s : State) : State :=
  if s.told.get c = true then
    let u := ({ s with told := s.told.set c false }).forceOnAssert c
    match u.parkLine with
    | .asserted => u
    | .released => u.parkOnRelease c
  else s

/-- Each sequencer that waits and does not lag takes the assertion. -/
def State.takeUp (s : State) : State :=
  s.eachCam (fun c u => if u.lagging.get c = true then u else u.takeAssertion c)

/-- An occasion to take an assertion: the line reaches the channels and the sequencers as separate events, and
which of the sequencers that wait take it now is a free value (R132). With none waiting nothing comes about.
Log 29. -/
def State.hearAssertion (s : State) : State :=
  if s.told = .const false then s else s.drawLagging.takeUp

/-- A fall of PARKN (R145). Held in reset, the part takes only the pin's level. The step of the assertion is
the sequencers' first occasion to take it. -/
def State.fallOfParkn (s : State) : State :=
  if s.rstn = .low then { s with parkn := .low }
  else
    let u : State := { s with parkn := .low, qualification := none }
    match s.parkLine with
    | .released => u.assertLine.hearAssertion
    | .asserted => u.followPark

/-- PARK_LINE_ASSERT (R145, R106): a fall of PARKN; with the pin low already nothing falls, and the sequencers
that have yet to take an assertion have an occasion to (R132; log 29). -/
def execParkLineAssert (s : State) : Host.Outcome State Fault Refusal :=
  .next (
    match s.parkn with
    | .high => s.fallOfParkn
    | .low => s.hearAssertion)

/-- PARKN_RISE (R146): a rise of PARKN while the line is ASSERTED starts the release qualification. Held
in reset, the part takes only the pin's level. With the pin high already nothing rises, and the sequencers that
have yet to take an assertion have an occasion to (R132; log 29). -/
def execParknRise (t : Nat) (s : State) : Host.Outcome State Fault Refusal :=
  .next (s.at t (fun u =>
    if u.parkn = .high then u.hearAssertion
    else if u.rstn = .high ∧ u.parkLine = .asserted then
      { u with parkn := .high, qualification := some t }
    else { u with parkn := .high }))

/-- The park line becomes RELEASED (R146): PARK_LINE is set, each output follows its conditions, and the
sequencers take the release: every FORCED cam enters PARKED (R107). -/
def State.releaseLine (s : State) : State :=
  ((({ s with qualification := none, parkLine := .released }).notify .parkLine).followPark).eachCam
    (fun c u => u.parkOnRelease c)

/-- PARK_LINE_RELEASE (R146): 1 ms has elapsed with the pin still high. With the line RELEASED already there
is nothing to release, and the sequencers that have yet to take an assertion have an occasion to (R132; log 29). -/
def execParkLineRelease (t : Nat) (s : State) : Host.Outcome State Fault Refusal :=
  .next (s.at t (fun u =>
    if u.parkLine = .released then u.hearAssertion
    else if u.parkn = .high ∧ u.qualification.any (fun t0 => expired t0 (msTicks 1) t) = true then u.releaseLine
    else u))

end Sys2Proof.Machine
end

