-- ==== Sys2Proof/Machine/Dispatch.lean ====
section
/-! DEFINITION. The dispatch: one arm per row of spec/opcode_table.json, each one direct call of that
row's meaning. -/

namespace Sys2Proof.Machine

def exec (i : Instr) (s : State) : Host.Outcome State Fault Refusal :=
  match i with
  | .powerOn rstn parkn t => Sys2Proof.Machine.execPowerOn rstn parkn t s
  | .rstn => Sys2Proof.Machine.execRstn s
  | .readyDelayExpiry t => Sys2Proof.Machine.execReadyDelayExpiry t s
  | .csnFall => Sys2Proof.Machine.execCsnFall s
  | .csnRise sampled t => Sys2Proof.Machine.execCsnRise sampled t s
  | .processingComplete t => Sys2Proof.Machine.execProcessingComplete t s
  | .nop => Sys2Proof.Machine.execNop s
  | .engineStatus => Sys2Proof.Machine.execEngineStatus s
  | .camStatus => Sys2Proof.Machine.execCamStatus s
  | .noticeRead => Sys2Proof.Machine.execNoticeRead s
  | .noticeMask => Sys2Proof.Machine.execNoticeMask s
  | .countersRead => Sys2Proof.Machine.execCountersRead s
  | .post => Sys2Proof.Machine.execPost s
  | .amend => Sys2Proof.Machine.execAmend s
  | .renew => Sys2Proof.Machine.execRenew s
  | .retire => Sys2Proof.Machine.execRetire s
  | .retireOwner => Sys2Proof.Machine.execRetireOwner s
  | .query => Sys2Proof.Machine.execQuery s
  | .scan => Sys2Proof.Machine.execScan s
  | .learn => Sys2Proof.Machine.execLearn s
  | .clearFault => Sys2Proof.Machine.execClearFault s
  | .configWrite => Sys2Proof.Machine.execConfigWrite s
  | .configRead => Sys2Proof.Machine.execConfigRead s
  | .commit t => Sys2Proof.Machine.execCommit t s
  | .reopen => Sys2Proof.Machine.execReopen s
  | .softReset => Sys2Proof.Machine.execSoftReset s
  | .linkLoss t => Sys2Proof.Machine.execLinkLoss t s
  | .crkEdge edge t => Sys2Proof.Machine.execCrkEdge edge t s
  | .stall t => Sys2Proof.Machine.execStall t s
  | .windowClose cam window t => Sys2Proof.Machine.execWindowClose cam window t s
  | .camEdge cam edge t => Sys2Proof.Machine.execCamEdge cam edge t s
  | .overcurrent cam current => Sys2Proof.Machine.execOvercurrent cam current s
  | .pwmPeriodEnd means t => Sys2Proof.Machine.execPwmPeriodEnd means t s
  | .parkLineAssert => Sys2Proof.Machine.execParkLineAssert s
  | .parknRise t => Sys2Proof.Machine.execParknRise t s
  | .parkLineRelease t => Sys2Proof.Machine.execParkLineRelease t s
  | .rstnRise t => Sys2Proof.Machine.execRstnRise t s
  | .dutyElapsed cam t => Sys2Proof.Machine.execDutyElapsed cam t s

end Sys2Proof.Machine
end

