-- ==== Sys2Proof/Safety.lean ====
section
/-! DEFINITION. The words that the claims are written in. First, what a sound state of the part is: the
relations that the manual states of its state between events, gathered into one invariant. The claims use
it as a premise where a rule speaks of the part as it can stand, and claim that every step keeps it.
Second, what a claim says of a request: that it is delivered, how its payload is laid out, and that it is
answered. -/

namespace Sys2Proof.Machine

/-! ## Modes and items (08) -/

/-- Every item holds a value in its range (R150). -/
def Items.Lawful (x : Items) : Prop := ∀ i : ItemRef, i.lawful (x.read i) = true

/-- The part stands as its mode requires (R149, R156, R158): in CONFIG the tracker is held in STOPPED, the
PWM timebase and the link timer are stopped; in RUN both run, the link is ready, and the set in force
is one that COMMIT accepts. A part held in reset is in CONFIG. -/
def ModeSound (s : State) : Prop :=
  (s.mode = .config → s.tracker = ⟨.stopped, 0⟩ ∧ s.timebase = none ∧ s.link.timer = none) ∧
  (s.mode = .run → s.timebase.isSome = true ∧ s.link.timer.isSome = true ∧ s.link.ready = true ∧
    s.items.validate = none) ∧
  (s.rstn = .low → s.mode = .config)

/-! ## Crank tracker (01) -/

/-- A tooth of a synchronised tracker stands at a position that carries a tooth, and its period lies in
its 24-bit range (R4, R8). -/
def Tooth.Sound (k : Tooth) (g : GlobalItems) (now : Nat) : Prop :=
  k.position ≤ g.lastPosition ∧ 1 ≤ k.period ∧ k.period ≤ 16777215 ∧ k.pitch ≤ k.period ∧
    k.lastTooth ≤ now

/-- The tracker holds what its sync state gives it (section 1.3): no speed out of sync, the tooth's angle
as R9 gives it, and a mismatch run below 2 (R19). -/
def TrackerSound (s : State) : Prop :=
  s.tracker.speed ≤ 65535 ∧
  match s.tracker.sync with
  | .stopped => s.tracker.speed = 0
  | .seeking q => s.tracker.speed = 0 ∧ q.periods ≤ 2 ∧ q.lastTooth ≤ s.now
  | .crankSync k =>
    k.Sound s.items.global s.now ∧ k.angle = k.position * s.items.global.pitchAngle
  | .engineSync k y =>
    k.Sound s.items.global s.now ∧
    k.angle = y.half.angle + k.position * s.items.global.pitchAngle ∧ y.coveredFrom < 11520 ∧
    y.mismatchRun ≤ 1

/-! ## Demand table (03) -/

/-- Remaining lies between 1 and the lifetime, and is 0 for a standing record (R47). -/
def Record.RemainingSound (r : Record) : Prop :=
  if r.lifetime = 0 then r.remaining = 0 else 1 ≤ r.remaining ∧ r.remaining ≤ r.lifetime

/-- A live record's fields are those its class allows (section 3.2, R45), its remaining lies where R47
puts it, its cam set is a non-empty subset of the enabled cams (R46), its clipped flags stand on WINNING and
CONTRIBUTING entries alone (R48), and the place of a cam outside its set is PENDING and clear (log 23). -/
def Record.Sound (r : Record) (s : State) : Prop :=
  r.owner ≤ 15 ∧ rankLawful r.cls r.rank = true ∧ valuesLawful r.cls r.first r.second = true ∧
  r.lifetime ≤ 255 ∧ r.RemainingSound ∧
  r.band.all (fun b => decide (b.1 ≤ b.2 ∧ b.2 ≤ 65535)) = true ∧
  r.cap.all (fun n => decide (r.cls = .override ∧ 1 ≤ n ∧ n ≤ 255)) = true ∧
  r.cams ≠ .const false ∧
  ∀ c : Cam, (r.cams.get c = true → s.enabled c = true) ∧
    (r.cams.get c = false → r.outcomes.get c = .fresh) ∧
    ((r.outcomes.get c).clipped = true →
      (r.outcomes.get c).standing = .winning ∨ (r.outcomes.get c).standing = .contributing)

/-- The table has 32 slots with generations 0 to 7, no record in CONFIG (R43), and sound records. -/
def TableSound (s : State) : Prop :=
  s.table.length = 32 ∧
  ∀ x ∈ s.table, x.generation < 8 ∧ (s.mode = .config → x.record = none) ∧
    ∀ r ∈ x.record, r.Sound s

/-- A cam whose arbitration is withdrawn stands PENDING in every record: one in FAULT (R87), and every
cam out of ENGINE_SYNC (R88). -/
def OutcomesSound (s : State) : Prop :=
  ∀ x ∈ s.table, ∀ r ∈ x.record, ∀ c : Cam,
    (s.tracker.sync.isEngine = false ∨ (s.cam c).phaser.state = .fault) → r.outcomes.get c = .fresh

/-! ## The blocks of one cam (02, 04 to 07) -/

/-- The geometry of a window, without the flags of its pass. -/
def Window.geometry (w : Window) : Nat × Nat × Nat := (w.base, w.start, w.width)

/-- A lane (02): its windows are those of its items while it is live and none otherwise (R23, R24); its
displacement is valid in ENGINE_SYNC alone (R39), with the miss run below MISS_LIMIT (R37); L lies within
LEARN_LIMIT and is 0 in CONFIG (R40). Out of ENGINE_SYNC the flags and the run are clear (R41). -/
def LaneSound (s : State) (c : Cam) : Prop :=
  let l := (s.cam c).lane
  (l.windows.map Window.geometry =
    if s.enabled c = true then (buildWindows (s.cfg c)).map Window.geometry else []) ∧
  l.missRun ≤ (s.cfg c).missLimit ∧
  (l.valid = true → s.tracker.sync.isEngine = true ∧ l.missRun < (s.cfg c).missLimit) ∧
  l.offset.natAbs ≤ s.items.global.learnLimit ∧ (s.mode = .config → l.offset = 0) ∧
  (s.tracker.sync.isEngine = false →
    l.missRun = 0 ∧ ∀ w ∈ l.windows, w.hit = false ∧ w.late = false) ∧
  (s.enabled c = false → l.missRun = 0)

/-- An arbiter (04): E lies within TRAVEL (R83); a suppressed result is that of R75 or a cleared one; the
result is cleared in FAULT (R87), in DISABLED (R89) and out of ENGINE_SYNC (R88). -/
def ArbiterSound (s : State) (c : Cam) : Prop :=
  let a := (s.cam c).arbiter
  a.target ≤ (s.cfg c).travel ∧
  (a.suppressed = true → a.target = 0 ∧ a.contributors = 0 ∧ (a.winner = .none ∨ a.winner = .default)) ∧
  ((s.cam c).phaser.state = .fault ∨ s.tracker.sync.isEngine = false → a = a.clear) ∧
  (s.enabled c = false → a = .reset)

/-- A sequencer (05): enabled exactly as COMMIT found it (R94); a cause set in FAULT alone (section 5.1,
R109); FORCED under an asserted park line alone, and no service under one that the sequencer has taken (R106, R107); neither RELEASING
nor TRACKING out of ENGINE_SYNC (R105); a BUSY learn only in PARKED, in ENGINE_SYNC, with fewer than 8
samples (R113 to R116); the runs below the values that end them. -/
def SequencerSound (s : State) (c : Cam) : Prop :=
  let q := (s.cam c).phaser
  (s.enabled c = true ↔ s.mode = .run ∧ (s.cfg c).enable = true) ∧
  (q.causes = .empty ↔ q.state ≠ .fault) ∧
  (q.state = .forced → s.parkLine = .asserted) ∧
  (q.state.inService = true → s.parkLine = .released ∨ s.told.get c = true) ∧
  (q.state = .releasing ∨ q.state = .tracking → s.tracker.sync.isEngine = true) ∧
  (q.learning = true → q.state = .parked ∧ s.tracker.sync.isEngine = true ∧ q.samples < 8) ∧
  q.samples ≤ 8 ∧ q.parkRun ≤ 1 ∧ q.errorRun < (s.cfg c).trackErrCycles ∧
  (q.state = .releasing → q.releaseCount < (s.cfg c).releaseLimit) ∧
  (q.state ≠ .tracking → q.parkRun = 0 ∧ q.errorRun = 0 ∧ q.eventSeen = false ∧ q.allOver = true)

/-- A position loop (06): R within 0 to TRAVEL (R122), the integrator within its clamp (R125), both 0 out
of TRACKING (R93). -/
def LoopSound (s : State) (c : Cam) : Prop :=
  let l := (s.cam c).loop
  l.ramped ≤ (s.cfg c).travel ∧ l.integrator.natAbs ≤ 64 * (s.cfg c).ilim ∧
  ((s.cam c).phaser.state ≠ .tracking → l = .reset)

/-- A channel's command (R93, R135): RELEASE_CURRENT in RELEASING, within IMAX in TRACKING, and 0
otherwise. -/
def CommandSound (s : State) (c : Cam) : Prop :=
  let h := (s.cam c).channel
  h.command ≤ (s.cfg c).imax ∧
  ((s.cam c).phaser.state = .releasing → h.command = (s.cfg c).releaseCurrent) ∧
  ((s.cam c).phaser.state ≠ .releasing → (s.cam c).phaser.state ≠ .tracking → h.command = 0)

/-- A channel's output (07): DRIVEN exactly under the three conditions of R136; an OFF output is quiet
(R140); a latched fault holds its cam in FAULT (R144); the open-load run is below the number that
qualifies (R143). -/
def ChannelSound (s : State) (c : Cam) : Prop :=
  let h := (s.cam c).channel
  (h.output = .driven ↔ h.mayDrive s.parkLine = true) ∧
  (h.output = .off → h.switchClosed = false ∧ h.duty = 0 ∧ h.limited = false ∧ h.openLoadRun = 0 ∧
    h.wholePeriod = false ∧ h.starting = false) ∧
  (h.latch ≠ .none → (s.cam c).phaser.state = .fault) ∧
  h.duty ≤ 1000 ∧ h.openLoadRun < openLoadPeriods s.items.global.pwmHz

/-- The blocks of a cam are sound. -/
structure CamSound (s : State) (c : Cam) : Prop where
  lane      : LaneSound s c
  arbiter   : ArbiterSound s c
  sequencer : SequencerSound s c
  loop      : LoopSound s c
  command   : CommandSound s c
  channel   : ChannelSound s c

/-! ## Park line and link (07, 09) -/

/-- The park line (R145, R146): while the part is not held in reset, a low pin means ASSERTED; a release
qualification runs exactly while the pin is high and the line is ASSERTED. Held in reset, no sequencer has
been told of an assertion. -/
def ParkLineSound (s : State) : Prop :=
  match s.rstn, s.parkn with
  | .high, .low => s.parkLine = .asserted ∧ s.qualification = none
  | .high, .high => s.parkLine = .asserted ↔ s.qualification.isSome = true
  | .low, _ => s.qualification = none ∧ s.told = .const false

/-- The link controller (09): busy from a rise until processing completes, with exactly a delivered
request or an answer in hand; a formed SUMMARY from the ready flag on (R167); nothing but ignored
transactions before it (R161); a payload of at most 40 bytes (R165) and a buffer of at most 43. -/
def LinkSound (s : State) : Prop :=
  let l := s.link
  (l.busy = true ↔ l.riseAt.isSome = true) ∧
  (l.busy = true ↔ (l.delivered.isSome != l.answer.isSome) = true) ∧
  (l.delivered.isSome = true → l.answer = none) ∧
  (l.busy = true → l.ready = true) ∧
  (l.ready = true → l.response.summary.isSome = true ∧ l.readyFrom = none ∧ s.rstn = .high) ∧
  (l.readyFrom.isSome = true → l.ready = false ∧ s.rstn = .high) ∧
  (l.ready = false → l.transaction = .idle ∨ l.transaction = .ignored) ∧
  l.response.payload.length ≤ 40 ∧
  (match l.answer with
    | some (.response _ _ p) => p.length ≤ 40
    | _ => True) ∧
  (match l.delivered with
    | some q => q.payload.length ≤ 40
    | none => True) ∧
  l.received.length ≤ 43

/-! ## Counters (10) -/

/-- A cam's counters fit 16 bits (R179). -/
def CamCounters.Sound (k : CamCounters) : Prop := ∀ i : CamCounter, k.get i ≤ 65535

/-- The thirty counters fit 16 bits and CYCLES fits 32 (R179). -/
def CountersSound (s : State) : Prop :=
  (∀ k : Counter, s.counters.get k ≤ 65535) ∧ s.counters.cycles < 4294967296

/-- The part stands as the manual says it can stand between two events. -/
structure Sound (s : State) : Prop where
  items    : s.items.Lawful
  mode     : ModeSound s
  tracker  : TrackerSound s
  table    : TableSound s
  outcomes : OutcomesSound s
  cams     : ∀ c : Cam, CamSound s c
  parkLine : ParkLineSound s
  link     : LinkSound s
  counters : CountersSound s

/-! ## What a claim says of a request -/

/-- The row of a request in the table; COMMIT's carries its instant. -/
def Request.command (t : Nat) : Request → Instr
  | .nop => .nop
  | .engineStatus => .engineStatus
  | .camStatus => .camStatus
  | .noticeRead => .noticeRead
  | .noticeMask => .noticeMask
  | .countersRead => .countersRead
  | .post => .post
  | .amend => .amend
  | .renew => .renew
  | .retire => .retire
  | .retireOwner => .retireOwner
  | .query => .query
  | .scan => .scan
  | .learn => .learn
  | .clearFault => .clearFault
  | .configWrite => .configWrite
  | .configRead => .configRead
  | .commit => .commit t
  | .reopen => .reopen
  | .softReset => .softReset

/-- A request stands delivered to its owner with a payload, still to be taken (R163, R169). -/
def State.delivers (s : State) (r : Request) (p : List Byte) : Prop := s.link.delivered = some ⟨r, p⟩

/-- `s` with the delivered request taken, and its answer in hand until processing completes (R166). -/
def State.answered (s : State) (r : Request) (result : Result) (payload : List Byte) : State :=
  { s with link := { s.link with
      delivered := none, answer := some (.response r.code result payload) } }

/-- A handle names a live record in a slot (R44). -/
def State.live (s : State) (h : Byte) (r : Record) : Prop :=
  s.table[h.toNat % 32]? = some ⟨h.toNat / 32, some r⟩

/-- A handle is stale: it names no live record (R44). -/
def State.stale (s : State) (h : Byte) : Prop := ∀ r, ¬ s.live h r

/-- The bytes of a speed band or of an AMEND's value part (R170). -/
def pairBytes : Option (Nat × Nat) → List Byte
  | some (a, b) => be16 a ++ be16 b
  | none => []

/-- The byte of a part that takes one, if present (R170). -/
def partByte : Option Nat → List Byte
  | some n => [u8 n]
  | none => []

/-- The payload of a POST (R170). -/
def PostForm.bytes (f : PostForm) : List Byte :=
  [u8 f.owner, u8 f.cls, f.cams, u8 f.rank] ++ be16 f.first ++ be16 f.second ++ [u8 f.lifetime, f.flags]
    ++ pairBytes f.band ++ partByte f.cap

/-- A POST's values fit their bytes, and its presence flags say which optional parts it carries (R51). -/
def PostForm.LaidOut (f : PostForm) : Prop :=
  f.owner < 256 ∧ f.cls < 256 ∧ f.rank < 256 ∧ f.first < 65536 ∧ f.second < 65536 ∧ f.lifetime < 256 ∧
  f.band.all (fun b => decide (b.1 < 65536 ∧ b.2 < 65536)) = true ∧
  f.cap.all (fun n => decide (n < 256)) = true ∧
  f.flags.getLsbD 0 = f.band.isSome ∧ f.flags.getLsbD 1 = f.cap.isSome

/-- The cases in which a POST of the right length is refused with BAD_FIELD (R51). -/
def PostForm.BadField (f : PostForm) (s : State) : Prop :=
  2 < f.cls ∨ 15 < f.owner ∨ f.cams = 0#8 ∨ 15 < f.cams.toNat ∨
  (∃ c : Cam, (camSetOf f.cams).get c = true ∧ s.enabled c = false) ∨
  15 < f.rank ∨ (f.cls = 1 ∧ f.rank = 0) ∨ 2047 < f.first ∨
  (f.cls = 2 ∧ (2047 < f.second ∨ f.second < f.first)) ∨ (f.cls ≠ 2 ∧ f.second ≠ 0) ∨
  (∃ lo hi, f.band = some (lo, hi) ∧ hi < lo) ∨ (f.cap.isSome = true ∧ f.cls ≠ 0) ∨ f.cap = some 0 ∨
  3 < f.flags.toNat

/-- The payload of an AMEND (R170). -/
def AmendForm.bytes (f : AmendForm) : List Byte :=
  [u8 f.handle, f.flags] ++ pairBytes f.value ++ partByte f.rank ++ partByte f.lifetime
    ++ pairBytes f.band ++ partByte f.cap

/-- An AMEND's values fit their bytes, and its change flags say which parts it carries (R53). -/
def AmendForm.LaidOut (f : AmendForm) : Prop :=
  f.handle < 256 ∧ f.value.all (fun b => decide (b.1 < 65536 ∧ b.2 < 65536)) = true ∧
  f.rank.all (fun n => decide (n < 256)) = true ∧ f.lifetime.all (fun n => decide (n < 256)) = true ∧
  f.band.all (fun b => decide (b.1 < 65536 ∧ b.2 < 65536)) = true ∧
  f.cap.all (fun n => decide (n < 256)) = true ∧
  f.flags.getLsbD 0 = f.value.isSome ∧ f.flags.getLsbD 1 = f.rank.isSome ∧
  f.flags.getLsbD 2 = f.lifetime.isSome ∧ f.flags.getLsbD 3 = f.band.isSome ∧
  f.flags.getLsbD 5 = f.cap.isSome

/-- The cases in which an AMEND of a live record of class `k` is refused with BAD_FIELD (R53). -/
def AmendForm.BadField (f : AmendForm) (k : Class) : Prop :=
  f.flags.getLsbD 7 = true ∨ (f.band.isSome = true ∧ f.flags.getLsbD 4 = true) ∨
  (f.cap.isSome = true ∧ f.flags.getLsbD 6 = true) ∨
  (∃ a b, f.value = some (a, b) ∧ (2047 < a ∨ (k = .limit ∧ (2047 < b ∨ b < a)) ∨ (k ≠ .limit ∧ b ≠ 0))) ∨
  (∃ n, f.rank = some n ∧ (15 < n ∨ (k = .blend ∧ n = 0))) ∨
  (∃ lo hi, f.band = some (lo, hi) ∧ hi < lo) ∨ f.cap = some 0 ∨
  (k ≠ .override ∧ (f.cap.isSome = true ∨ f.flags.getLsbD 6 = true))

/-- The record as an AMEND's flags change it (R54). -/
def AmendForm.Changes (f : AmendForm) (r r' : Record) : Prop :=
  r'.owner = r.owner ∧ r'.cls = r.cls ∧ r'.cams = r.cams ∧
  (r'.first, r'.second) = f.value.getD (r.first, r.second) ∧ r'.rank = f.rank.getD r.rank ∧
  r'.lifetime = f.lifetime.getD r.lifetime ∧ r'.remaining = f.lifetime.getD r.remaining ∧
  (r'.band = if f.flags.getLsbD 4 = true then none else f.band.or r.band) ∧
  (r'.cap = if f.flags.getLsbD 6 = true then none else f.cap.or r.cap) ∧
  r'.outcomes = .const ⟨.pending, false⟩

/-! ## What COMMIT asks of the items (R154) -/

/-- Two windows of a cam with these starts share an angle (R155). -/
def CamItems.Share (k : CamItems) (a b : Nat) : Prop :=
  (b + 11520 - a) % 11520 < k.travel + 2 * k.margin + 1 ∨
  (a + 11520 - b) % 11520 < k.travel + 2 * k.margin + 1

/-- The start of a cam's window `j` (R24). -/
def CamItems.startOf (k : CamItems) (j : Nat) : Nat :=
  let base := [k.windowBase0, k.windowBase1, k.windowBase2, k.windowBase3].getD j 0
  match k.direction with
  | .advance => (base + 11520 - k.travel - k.margin) % 11520
  | .retard => (base + 11520 - k.margin) % 11520

/-- What the check of a detail code asks of an enabled cam's items (R154), for the checks made for each
enabled cam. -/
def CamItems.Check (k : CamItems) (g : GlobalItems) : Nat → Prop
  | 3 => 1 ≤ k.windowCount ∧ k.windowCount ≤ 4
  | 4 => ∀ i j, i < j → j < k.windowCount → ¬ k.Share (k.startOf i) (k.startOf j)
  | 7 => k.holdCurrent ≤ k.imax ∧ k.releaseCurrent ≤ k.imax
  | 8 => ((k.releaseCurrent : Int) - (k.holdCurrent : Int)).natAbs ≤ k.ilim
  | 9 => k.unlockThreshold ≠ 0 ∨ k.unlockCycles ≠ 0
  | 10 => k.unlockCycles < k.releaseLimit
  | 11 => k.defaultTarget ≤ k.travel ∧ k.parkBand < k.travel
  | 12 => g.learnLimit ≤ k.margin
  | 13 => k.unlockThreshold < k.travel
  | _ => True

/-- The check of a detail code passes (R154). -/
def Items.Check (x : Items) (n : Nat) : Prop :=
  let g := x.global
  let ref := x.cam.get g.referenceCam
  match n with
  | 1 => ∃ c : Cam, (x.cam.get c).enable = true
  | 2 => ref.enable = true
  | 5 => ∀ i j, i < ref.windowCount → j < ref.windowCount →
      ¬ ref.Share ((ref.startOf i + 5760) % 11520) (ref.startOf j)
  | 6 => g.suppressRpm < g.releaseRpm
  | n => ∀ c : Cam, (x.cam.get c).enable = true → (x.cam.get c).Check g n

/-- The cam that a failing check reports (R154): none for checks 1 and 6, the reference cam for checks 2
and 5, and the first enabled cam that fails for the others. -/
def Items.Reports (x : Items) (n : Nat) (cam : Option Cam) : Prop :=
  match n with
  | 1 | 6 => cam = none
  | 2 | 5 => cam = some x.global.referenceCam
  | n => ∃ c : Cam, cam = some c ∧ (x.cam.get c).enable = true ∧ ¬ (x.cam.get c).Check x.global n ∧
      ∀ b : Cam, b.index < c.index → (x.cam.get b).enable = true → (x.cam.get b).Check x.global n

/-! ## What a claim says of the crank tracker and of a frame -/

/-- The pitch period known from the search or from the last tooth (R3). -/
def Sync.knownPitch : Sync → Option Nat
  | .stopped => none
  | .seeking q => q.pitch
  | .crankSync k => some k.pitch
  | .engineSync k _ => some k.pitch

/-- An edge meets both conditions of R3: a pitch period is known, and less than a quarter of it has passed
since the last accepted tooth. -/
def Sync.Noise (y : Sync) (t : Nat) : Prop :=
  ∃ p t0, y.knownPitch = some p ∧ y.lastTooth = some t0 ∧ t - t0 < p / 4

/-- The eight bits of a byte in the order of the link, most significant first (R161). -/
def bitsOf (b : Byte) : List Bool :=
  [b.getLsbD 7, b.getLsbD 6, b.getLsbD 5, b.getLsbD 4, b.getLsbD 3, b.getLsbD 2, b.getLsbD 1, b.getLsbD 0]

/-- A request frame: CMD, LEN, the payload and the CRC (R162). -/
def requestFrame (cmd : Byte) (p : List Byte) : List Byte :=
  (cmd :: u8 p.length :: p) ++ [crc8 (cmd :: u8 p.length :: p)]

/-! ## What a claim says of a cam that changes its state -/

/-- A sequencer whose learn, if BUSY, has been aborted (R116). -/
def Sequencer.aborted (q : Sequencer) : Sequencer :=
  { q with learning := false, lastLearn := if q.learning = true then .aborted else q.lastLearn }

/-- The notice flags once a BUSY learn of a cam has been aborted (R116, R176). -/
def State.abortNotices (s : State) (c : Cam) : BitVec 16 :=
  if (s.cam c).phaser.learning = true then s.notices ||| BitVec.twoPow 16 (12 + c.index) else s.notices

/-- `s` with a cam put in FAULT by a first cause, effect by effect as R109 lists them. -/
def State.faulted (s : State) (c : Cam) (cause : Cause) : State :=
  { s with
    cams := s.cams.set c
      { lane := (s.cam c).lane
        arbiter := ⟨0, .none, 0, 0, 2047, none, 0, (s.cam c).arbiter.suppressed⟩
        phaser :=
          { (s.cam c).phaser.aborted with
            state := .fault
            causes := ⟨decide (cause = .signal), decide (cause = .overcurrent), decide (cause = .openLoad),
              decide (cause = .stuck), decide (cause = .following)⟩
            releaseCount := 0, parkRun := 0, errorRun := 0, eventSeen := false, allOver := true }
        loop := ⟨0, 0⟩
        channel := (s.cam c).channel.write s.parkLine 0 }
    table := s.table.map (fun (x : Slot) =>
      ⟨x.generation, x.record.map (fun (r : Record) =>
        if r.cams.get c = true then { r with outcomes := r.outcomes.set c ⟨.pending, false⟩ } else r)⟩)
    counters := s.counters.put (.ofCam c .faults)
      (counterNext s.items.global.counterWrap (s.counters.get (.ofCam c .faults)))
    notices := s.abortNotices c ||| BitVec.twoPow 16 (8 + c.index) }

/-- `s` with a cause added to the set of a cam in FAULT: the report is counted and notified, every cause already
in the set stays, and nothing else changes (R110). -/
def State.faultAdded (s : State) (c : Cam) (cause : Cause) : State :=
  { s with
    cams := s.cams.set c { s.cam c with phaser := { (s.cam c).phaser with causes :=
      { signal := (s.cam c).phaser.causes.signal || decide (cause = .signal)
        overcurrent := (s.cam c).phaser.causes.overcurrent || decide (cause = .overcurrent)
        openLoad := (s.cam c).phaser.causes.openLoad || decide (cause = .openLoad)
        stuck := (s.cam c).phaser.causes.stuck || decide (cause = .stuck)
        following := (s.cam c).phaser.causes.following || decide (cause = .following) } } }
    counters := s.counters.put (.ofCam c .faults)
      (counterNext s.items.global.counterWrap (s.counters.get (.ofCam c .faults)))
    notices := s.notices ||| BitVec.twoPow 16 (8 + c.index) }

/-- `s` after a fault report at an enabled cam: the entry to FAULT (R109), or a cause added in it (R110). -/
def State.reported (s : State) (c : Cam) (cause : Cause) : State :=
  if (s.cam c).phaser.state = .fault then s.faultAdded c cause else s.faulted c cause

/-- Every live record that names a cam holds PENDING, clear, for it (R87). -/
def State.PendingFor (s : State) (c : Cam) : Prop :=
  ∀ x ∈ s.table, ∀ r ∈ x.record, r.cams.get c = true → r.outcomes.get c = ⟨.pending, false⟩

/-- A sequencer that enters TRACKING, its runs at 0 and its cycle error flags reset (R102, R104). -/
def Sequencer.tracks (q : Sequencer) : Sequencer :=
  { q with state := .tracking, parkRun := 0, errorRun := 0, eventSeen := false, allOver := true }

/-- The bumpless preset of a cam that enters TRACKING (R102): R is the last valid displacement, held
within 0 to TRAVEL, and 0 where none is valid; the integrator starts the command at RELEASE_CURRENT. -/
def State.preset (s : State) (c : Cam) : Loop :=
  { ramped := if (s.cam c).lane.valid = true then
      (max 0 (min (s.cam c).lane.d ((s.cfg c).travel : Int))).toNat else 0
    integrator := ((s.cfg c).releaseCurrent - (s.cfg c).holdCurrent : Int) * 64 }

/-! ## What a claim says of the configuration store and of a reset -/

/-- Two bytes form the item reference `i` (R150). -/
def ItemRef.Names (i : ItemRef) (item cam : Byte) : Prop :=
  match i with
  | .global g => item.toNat = g.number ∧ cam = 0#8
  | .ofCam k c => item.toNat = k.number ∧ cam.toNat = c.index

/-- A command that may reset the part (R171, R172). -/
def MayReset (i : Instr) : Prop :=
  (∃ a b t, i = .powerOn a b t) ∨ i = .rstn ∨ ∃ t, i = .processingComplete t

/-- Every block stands as a reset of this cause leaves it, its end at the instant given, if it has ended
(R22, R42, R69, R70, R119, R133, R148, R160, R171, R181). -/
def State.AfterReset (s : State) (cause : ResetCause) (ended : Option Nat) : Prop :=
  s.mode = .config ∧ s.items = .reset ∧ s.tracker = ⟨.stopped, 0⟩ ∧
  s.table = List.replicate 32 ⟨0, none⟩ ∧ s.qualification = none ∧ s.told = ⟨false, false, false, false⟩ ∧
  s.timebase = none ∧
  (s.parkLine = .asserted ↔ s.parkn = .low) ∧ s.notices = 0x0001#16 ∧ s.mask = 0xFFFF#16 ∧
  s.counters.cycles = 0 ∧ (∀ k : Counter, s.counters.get k = 0) ∧
  s.link.ready = false ∧ s.link.readyFrom = ended ∧ s.link.received = [] ∧ s.link.busy = false ∧
  s.link.riseAt = none ∧ s.link.delivered = none ∧ s.link.answer = none ∧ s.link.timer = none ∧
  s.link.heldCause = cause ∧ s.link.response = ⟨0x00#8, .resetMark, none, [cause.code]⟩ ∧
  ∀ c : Cam,
    (s.cam c).lane = ⟨[], 0, 0, 0, false, 0⟩ ∧
    (s.cam c).arbiter = ⟨0, .none, 0, 0, 2047, none, 0, true⟩ ∧
    (s.cam c).phaser =
      ⟨.disabled, ⟨false, false, false, false, false⟩, 0, 0, 0, false, true, false, 0, 0, .none⟩ ∧
    (s.cam c).loop = ⟨0, 0⟩ ∧
    (s.cam c).channel = ⟨0, .off, 0, false, .asSensed, false, .none, 0, false, false⟩

end Sys2Proof.Machine
end

