-- ==== Sys2Proof/Certificates/Slice0/Obligations.lean ====
section
/-! DEFINITION. The statements for the provers: what the commands and the machine do, from the numbered
rules of spec/. A value that the manual leaves open is never named in one: each holds whatever the
constants of `Config.lean` are. Three conventions of the model run through them: a command carries its instant,
and the hypothesis `s.now ≤ t` says that it is not in the past (log 1); a command whose event cannot come about
in the state changes nothing but the time (log 2); an expiry may be taken late, at any instant from the one at
which it is due (log 3). A request's row takes the request that CSN_RISE delivered (log 4). -/

open Sys2Proof Sys2Proof.Machine

/-! ## The machine -/

/-- A step takes the command at the front of the queue and is `exec` of it with the queue's rest; an empty
queue idles (log 5, log 24: the queue is the model's own). -/
def Obligations.StepRunsTheFrontCommand : Prop :=
  ∀ (c : Instr) (rest : List Instr) (s : State),
    step { s with pending := c :: rest } = exec c { s with pending := rest } ∧
    step { s with pending := [] } = .next { s with pending := [] }

/-- The state after a power-on reset is sound (R22, R42, R69, R70, R119, R133, R148, R160, R171, R181). -/
def Obligations.ResetIsSound : Prop := Sound State.reset

/-- Every step from a sound state leads to a sound state. -/
def Obligations.StepKeepsSound : Prop :=
  ∀ s u : State, Sound s → step s = .next u → Sound u

/-- From a sound state every step answers a next state: the one case without a rule, both candidates of a
phase resolution in windows, "does not arise in RUN" (R15), because COMMIT's check 5 refuses such windows. -/
def Obligations.SoundStepNeverStops : Prop :=
  ∀ s : State, Sound s → ∃ u, step s = .next u

/-- No command is refused, and the one that faults is CAM_EDGE, exactly where both candidates of a phase
resolution lie in reference windows, the case to which R15 gives no effect (log 13). -/
def Obligations.OnlyAmbiguousHalfStops : Prop :=
  ∀ (i : Instr) (s : State),
    (∀ r, exec i s ≠ .refused r) ∧
    ((∃ f, exec i s = .fault f) ↔
      ∃ c edge t k, i = .camEdge c edge t ∧ s.now ≤ t ∧ s.enabled c = true ∧ edge = (s.cfg c).edge ∧
        c = s.items.global.referenceCam ∧ s.tracker.sync = .crankSync k ∧
        (windowAt (s.cam c).lane.windows (clockAt s.items.global k 5760 t)).isSome = true ∧
        (windowAt (s.cam c).lane.windows (clockAt s.items.global k 5760 t + 5760)).isSome = true)

/-! ## Crank tracker (01) -/

/-- CRK_EDGE where the tracker is held or the polarity is the other one changes nothing; the first edge of
the set polarity in STOPPED starts a search (R1, R2, R6). The instant is the model's operand (log 1). -/
def Obligations.FirstToothStartsSearch : Prop :=
  ∀ (edge : Edge) (t : Nat) (s : State), s.now ≤ t →
    ((s.mode = .config ∨ edge ≠ s.items.global.crankEdge) →
      exec (.crkEdge edge t) s = .next { s with now := t }) ∧
    (s.mode = .run → edge = s.items.global.crankEdge → s.tracker.sync = .stopped →
      exec (.crkEdge edge t) s =
        .next { s with now := t, tracker := ⟨.seeking ⟨t, 0, none, none, none⟩, 0⟩ })

/-- An edge of the set polarity is accepted as a tooth unless both conditions of R3 hold; one that meets
both increments NOISE_REJECTS and changes nothing else, and one that does not becomes the last accepted
tooth. -/
def Obligations.NoiseIsRejected : Prop :=
  ∀ (edge : Edge) (t : Nat) (s : State),
    s.now ≤ t → s.mode = .run → edge = s.items.global.crankEdge →
    (s.tracker.sync.Noise t →
      exec (.crkEdge edge t) s =
        .next { s with
          now := t
          counters := { s.counters with
            noiseRejects := counterNext s.items.global.counterWrap s.counters.noiseRejects } }) ∧
    (¬ s.tracker.sync.Noise t →
      ∃ u, exec (.crkEdge edge t) s = .next u ∧ u.tracker.sync.lastTooth = some t ∧
        u.counters.noiseRejects = s.counters.noiseRejects)

/-- A tooth taken in SEEKING measures a period (R4), and one that ends a gap (R5) is position 0 in
CRANK_SYNC with the speed of R12 (R7). With a pitch period of 0 the speed is not stated (log 7). -/
def Obligations.GapEntersCrankSync : Prop :=
  ∀ (t : Nat) (s : State) (q : Search) (T : Nat),
    s.now ≤ t → s.mode = .run → s.tracker.sync = .seeking q → ¬ s.tracker.sync.Noise t →
    T = max 1 (min (t - q.lastTooth) 16777215) →
    (∀ (prev : Nat) (long : Prop), q.pitch = some prev → 1 ≤ q.periods →
      (long ↔ if s.items.global.missing = 1 then 3 * prev ≤ 2 * T else 2 * prev ≤ T) →
      (long →
        ∃ v, exec (.crkEdge s.items.global.crankEdge t) s =
            .next { s with
              now := t
              tracker := ⟨.crankSync ⟨t, T, T / (s.items.global.missing + 1), prev, 0, 0⟩, v⟩ } ∧
          v ≤ 65535 ∧
          (T / (s.items.global.missing + 1) ≠ 0 →
            v = min (600000000 / (T / (s.items.global.missing + 1) * s.items.global.teeth)) 65535)) ∧
      (¬ long →
        exec (.crkEdge s.items.global.crankEdge t) s =
          .next { s with
            now := t
            tracker := ⟨.seeking ⟨t, 2, some T, some T, some prev⟩, s.tracker.speed⟩ })) ∧
    (q.pitch = none → q.periods = 0 →
      exec (.crkEdge s.items.global.crankEdge t) s =
        .next { s with
          now := t
          tracker := ⟨.seeking ⟨t, 1, some T, some T, none⟩, s.tracker.speed⟩ })

/-- A tooth taken in CRANK_SYNC where the gap test agrees with R8's expectation takes its position, its
angle (R9), its periods (R4) and the speed (R12), and nothing else changes. -/
def Obligations.CrankSyncToothIsTaken : Prop :=
  ∀ (t : Nat) (s : State) (k : Tooth) (gap : Bool) (n : Tooth),
    s.now ≤ t → s.mode = .run → s.tracker.sync = .crankSync k → ¬ s.tracker.sync.Noise t →
    gap = longPeriod s.items.global.missing (toothPeriod k.lastTooth t) k.pitch →
    (gap = true ↔ k.position = s.items.global.teeth - s.items.global.missing - 1) →
    n = { lastTooth := t, period := toothPeriod k.lastTooth t,
          pitch := if gap then toothPeriod k.lastTooth t / (s.items.global.missing + 1)
            else toothPeriod k.lastTooth t,
          prevPitch := k.pitch, position := if gap then 0 else k.position + 1,
          angle := if gap then 0 else (k.position + 1) * (5760 / s.items.global.teeth) } →
    ∃ v, exec (.crkEdge s.items.global.crankEdge t) s =
        .next { s with now := t, tracker := ⟨.crankSync n, v⟩ } ∧
      v ≤ 65535 ∧ (n.pitch ≠ 0 → v = min (600000000 / (n.pitch * s.items.global.teeth)) 65535)

/-- A tooth taken in ENGINE_SYNC takes its position and angle (R8, R9); the one that makes the half 0
brings a cycle mark (R11), which closes the mismatch accounting and, at a run of 2, loses phase (R19). Every
window of an enabled cam whose close angle the tooth's step covers, and that has not closed since the last
tooth, closes: each pass without hit or late mark is a miss (R17, R36), and the one that brings the run to
MISS_LIMIT reports SIGNAL (R37): the cam enters FAULT with its result cleared, its entries PENDING and its learn
aborted (R87, R109), or in FAULT already keeps its causes and adds this one (R110). The mark then reaches every cam's sequencer as `State.cycleMark`
(R11, R96), of which CycleMarkMovesTheSequencer says what it does; a loss of phase is SyncLossParksEveryCam's.
That the closes come before the mark, so that a SIGNAL fault at the tooth of a mark counts one fault, is the
model's order (log 12); so is a SIGNAL fault at MISS_LIMIT 1 after a CLEAR_FAULT (log 31). -/
def Obligations.EngineSyncToothIsTaken : Prop :=
  ∀ (t : Nat) (s : State) (k : Tooth) (y : Cycle) (gap : Bool) (half : Half) (n : Tooth) (run : Nat)
    (closing : Window → Bool),
    s.now ≤ t → s.mode = .run → s.tracker.sync = .engineSync k y → ¬ s.tracker.sync.Noise t →
    gap = longPeriod s.items.global.missing (toothPeriod k.lastTooth t) k.pitch →
    (gap = true ↔ k.position = s.items.global.teeth - s.items.global.missing - 1) →
    half = (if gap then (match y.half with | .first => .second | .second => .first) else y.half) →
    n = { lastTooth := t, period := toothPeriod k.lastTooth t,
          pitch := if gap then toothPeriod k.lastTooth t / (s.items.global.missing + 1)
            else toothPeriod k.lastTooth t,
          prevPitch := k.pitch, position := if gap then 0 else k.position + 1,
          angle := (match half with | .first => 0 | .second => 5760) +
            (if gap then 0 else (k.position + 1) * (5760 / s.items.global.teeth)) } →
    run = (if y.mismatch = true ∧ y.refHit = false then y.mismatchRun + 1 else 0) →
    (∀ w : Window, closing w = true ↔ w.passed = false ∧ covers y.coveredFrom n.angle w.closeAngle = true) →
    ∃ u, exec (.crkEdge s.items.global.crankEdge t) s = .next u ∧
      (n.pitch ≠ 0 → u.tracker.speed = min (600000000 / (n.pitch * s.items.global.teeth)) 65535) ∧
      (∀ (c : Cam) (l : Lane) (missed : Nat) (signal : Bool) (v : CamState),
        s.enabled c = true → l = (s.cam c).lane → l.windows.length ≤ 4 →
        missed = l.windows.countP (fun w => closing w && !w.hit && !w.late) →
        signal = decide (l.missRun < (s.cfg c).missLimit ∧ (s.cfg c).missLimit ≤ l.missRun + missed) →
        v = (if gap = true ∧ half = .first then (s.cycleMark c).cam c else s.cam c) →
        u.counters.get (.ofCam c .missed) =
          Nat.repeat (counterNext s.items.global.counterWrap) missed (s.counters.get (.ofCam c .missed)) ∧
        (u.tracker.sync.isEngine = true →
          (u.cam c).lane = { l with
            windows := l.windows.map (fun w =>
              if closing w = true then { w with hit := false, late := false, passed := false }
              else { w with passed := false })
            missRun := if l.missRun < (s.cfg c).missLimit then min (l.missRun + missed) (s.cfg c).missLimit
              else l.missRun
            valid := if signal = true then false else l.valid } ∧
          (signal = true →
            u.cam c = (({ s with cams := s.cams.set c { s.cam c with lane := (u.cam c).lane } }).reported c
              .signal).cam c ∧
            ((s.cam c).phaser.state ≠ .fault → u.PendingFor c ∧
              ((s.cam c).phaser.learning = true → u.noticeSet (.learnEnded c) = true)) ∧
            u.noticeSet (.phaserFault c) = true ∧
            u.counters.get (.ofCam c .faults) =
              counterNext s.items.global.counterWrap (s.counters.get (.ofCam c .faults))) ∧
          (signal = false → (u.cam c).phaser = v.phaser ∧ (u.cam c).loop = v.loop ∧
            (u.cam c).channel = v.channel ∧ (u.cam c).arbiter = v.arbiter))) ∧
      if gap = true ∧ half = .first then
        u.counters.cycles = (s.counters.cycles + 1) % 4294967296 ∧
        if run = 2 then
          u.tracker.sync = .crankSync { n with angle := 0 } ∧ u.noticeSet .syncLost = true ∧
          u.counters.phaseLosses = counterNext s.items.global.counterWrap s.counters.phaseLosses
        else
          u.tracker.sync = .engineSync n
            { half := .first, coveredFrom := n.angle, refHit := false, mismatch := false,
              mismatchRun := run } ∧
          u.counters.phaseLosses = s.counters.phaseLosses
      else
        u.tracker.sync = .engineSync n { y with half := half, coveredFrom := n.angle } ∧
        u.counters.cycles = s.counters.cycles ∧ u.counters.phaseLosses = s.counters.phaseLosses

/-- A gap error counts, sets SYNC_LOST and starts a new search at the same tooth (R10); it brings no cycle
mark, and every record keeps its slot and its remaining (R61). -/
def Obligations.GapErrorRestartsSearch : Prop :=
  ∀ (t : Nat) (s : State) (k : Tooth),
    s.now ≤ t → s.mode = .run →
    (s.tracker.sync = .crankSync k ∨ ∃ y, s.tracker.sync = .engineSync k y) →
    ¬ s.tracker.sync.Noise t →
    ¬ (longPeriod s.items.global.missing (toothPeriod k.lastTooth t) k.pitch = true ↔
        k.position = s.items.global.teeth - s.items.global.missing - 1) →
    ∃ u, exec (.crkEdge s.items.global.crankEdge t) s = .next u ∧
      u.tracker = ⟨.seeking ⟨t, 0, none, none, none⟩, 0⟩ ∧ u.noticeSet .syncLost = true ∧
      u.counters =
        { s.counters with gapErrors := counterNext s.items.global.counterWrap s.counters.gapErrors } ∧
      u.table.map (fun x => (x.generation, x.record.map Record.remaining)) =
        s.table.map (fun x => (x.generation, x.record.map Record.remaining))

/-- CYCLES changes only at a tooth that ends the gap of half 1 in ENGINE_SYNC, by 1 and wrapping at 32
bits (R11, R179), by the clear of R180, or by a reset. -/
def Obligations.CyclesCountMarks : Prop :=
  ∀ (i : Instr) (s u : State), exec i s = .next u → u.counters.cycles ≠ s.counters.cycles →
    (∃ edge t k y, i = .crkEdge edge t ∧ s.tracker.sync = .engineSync k y ∧ y.half = .second ∧
      k.position = s.items.global.teeth - s.items.global.missing - 1 ∧
      u.counters.cycles = (s.counters.cycles + 1) % 4294967296) ∨
    (u.counters.cycles = 0 ∧
      (i = .countersRead ∨ i = .rstn ∨ (∃ a b t, i = .powerOn a b t) ∨ ∃ t, i = .processingComplete t))

/-- The angle clock runs from the tooth's angle at P per pitch period, holds one short of its limit, and
never reaches the end of its revolution (R13); at the tooth's own instant it reads the tooth's angle (R13,
R14), and in the second half 5,760 more. With a pitch period of 0 its later steps are not stated (log 8). -/
def Obligations.AngleClockHolds : Prop :=
  ∀ (g : GlobalItems) (k : Tooth) (t h : Nat),
    g.teeth ∈ [12, 24, 36, 48, 60] → g.missing ∈ [1, 2] → k.position ≤ g.teeth - g.missing - 1 →
    k.angle = k.position * (5760 / g.teeth) → h ≤ 1 →
    (k.pitch ≠ 0 →
      clockAt g k 5760 t =
        k.angle + min ((t - k.lastTooth) * (5760 / g.teeth) / k.pitch)
          ((if k.position = g.teeth - g.missing - 1 then 5760 / g.teeth * (g.missing + 1)
            else 5760 / g.teeth) - 1)) ∧
    clockAt g k 5760 k.lastTooth = k.angle ∧
    clockAt g k 5760 t < 5760 ∧
    clockAt g { k with angle := h * 5760 + k.angle } 11520 t = h * 5760 + clockAt g k 5760 t

/-- The stall timer's expiry enters STOPPED with speed 0, counts, and sets ENGINE_STOPPED unless the state
was SEEKING (R20); it does not come before STALL_MS has passed since the last accepted tooth: such a command
changes nothing (log 2), and it may come late (log 3). -/
def Obligations.StallStopsTheTracker : Prop :=
  ∀ (t : Nat) (s : State), s.now ≤ t →
    ((∀ t0, s.tracker.sync.lastTooth = some t0 → t < t0 + s.items.global.stallMs * 10000) →
      exec (.stall t) s = .next { s with now := t }) ∧
    (∀ t0, s.tracker.sync.lastTooth = some t0 → t0 + s.items.global.stallMs * 10000 ≤ t →
      ∃ u, exec (.stall t) s = .next u ∧ u.tracker = ⟨.stopped, 0⟩ ∧
        u.counters =
          { s.counters with stalls := counterNext s.items.global.counterWrap s.counters.stalls } ∧
        ((∃ q, s.tracker.sync = .seeking q) → u.notices = s.notices ∧ u.cams = s.cams ∧ u.table = s.table) ∧
        ((∃ k, s.tracker.sync = .crankSync k) →
          u.notices = s.notices ||| 0x0008#16 ∧ u.cams = s.cams ∧ u.table = s.table) ∧
        ((∃ k y, s.tracker.sync = .engineSync k y) → u.noticeSet .engineStopped = true))

/-- A loss of ENGINE_SYNC, whichever command brought it (R21), leaves every enabled cam with its valid flag,
miss run and window flags clear (R41), neither RELEASING nor TRACKING and without command, R and integrator
(R105), with no BUSY learn (R116), no winner and E at 0 (R88), and leaves every outcome PENDING (R88). -/
def Obligations.SyncLossParksEveryCam : Prop :=
  ∀ (i : Instr) (s u : State), Sound s → exec i s = .next u →
    s.tracker.sync.isEngine = true → u.tracker.sync.isEngine = false →
    (∀ c : Cam, s.enabled c = true →
      (u.cam c).lane.valid = false ∧ (u.cam c).lane.missRun = 0 ∧
      (∀ w ∈ (u.cam c).lane.windows, w.hit = false ∧ w.late = false) ∧
      (u.cam c).arbiter.target = 0 ∧ (u.cam c).arbiter.winner = .none ∧
      (u.cam c).phaser.learning = false ∧
      (u.cam c).phaser.state ≠ .releasing ∧ (u.cam c).phaser.state ≠ .tracking ∧
      (u.cam c).channel.command = 0 ∧ (u.cam c).loop = ⟨0, 0⟩) ∧
    ∀ x ∈ u.table, ∀ r ∈ x.record, ∀ c : Cam, r.outcomes.get c = ⟨.pending, false⟩

/-! ## Cam measurement (02) -/

/-- A cam edge has no effect on a lane that is not live or of the other polarity (R23, R26), nor in STOPPED
or SEEKING, nor in CRANK_SYNC on a cam that is not the reference cam (R26). -/
def Obligations.EdgeWithoutAngleIsDisregarded : Prop :=
  ∀ (c : Cam) (edge : Edge) (t : Nat) (s : State), s.now ≤ t →
    (s.enabled c = false ∨ edge ≠ (s.cfg c).edge ∨ s.tracker.sync = .stopped ∨
      (∃ q, s.tracker.sync = .seeking q) ∨
      (∃ k, s.tracker.sync = .crankSync k ∧ c ≠ s.items.global.referenceCam)) →
    exec (.camEdge c edge t) s = .next { s with now := t }

/-- Phase resolution in CRANK_SYNC (R15, R16): an edge with neither candidate in a window counts as STRAY
alone; one with exactly one gains ENGINE_SYNC in that candidate's half with the notice set (R16), marks the
windows of every enabled lane that hold its angle late, the reference lane's among them (R35), is measured in
the window that held the candidate (R30), and then reaches the arbiter, where that is window 0, and the
sequencer (R31, R71, R95). An edge taken on the very tick of a loss of phase, after it, is one of these: R19 says
so, R90 and R117 that it is not measured, and that it resolves phase is the model's choice (log 32). -/
def Obligations.ReferenceEdgeResolvesPhase : Prop :=
  ∀ (c : Cam) (t a : Nat) (s : State) (k : Tooth),
    s.now ≤ t → s.enabled c = true → c = s.items.global.referenceCam → s.tracker.sync = .crankSync k →
    a = clockAt s.items.global k 5760 t →
    (windowAt (s.cam c).lane.windows a = none → windowAt (s.cam c).lane.windows (a + 5760) = none →
      exec (.camEdge c (s.cfg c).edge t) s =
        .next { s with
          now := t
          counters := s.counters.put (.ofCam c .stray)
            (counterNext s.items.global.counterWrap (s.counters.get (.ofCam c .stray))) }) ∧
    (∀ (half : Half) (angle j : Nat) (w : Window),
      ((half = .first ∧ angle = a ∧ windowAt (s.cam c).lane.windows (a + 5760) = none) ∨
        (half = .second ∧ angle = a + 5760 ∧ windowAt (s.cam c).lane.windows a = none)) →
      windowAt (s.cam c).lane.windows angle = some j → (s.cam c).lane.windows[j]? = some w →
      w.hit = false →
      ∀ (d : Int) (gained : List Window → List Window) (cams : PerCam CamState) (m : State),
        d = displacement (s.cfg c) (s.cam c).lane.offset w.base angle →
        gained = List.map (fun v => { v with late := v.contains angle, passed := false }) →
        (∀ b : Cam, cams.get b =
          if b = c then
            { s.cam c with lane :=
              { (s.cam c).lane with
                d := d, dWindow := j, valid := true, missRun := 0
                windows := (gained (s.cam c).lane.windows).set j
                  { w with hit := true, late := true, passed := false } } }
          else if s.enabled b = true then
            { s.cam b with lane := { (s.cam b).lane with windows := gained (s.cam b).lane.windows } }
          else s.cam b) →
        m = { s with
          now := t
          tracker := ⟨.engineSync
            { k with angle := (match half with | .first => 0 | .second => 5760) + k.angle }
            { half := half, coveredFrom := angle, refHit := true, mismatch := false, mismatchRun := 0 },
            s.tracker.speed⟩
          notices := s.notices ||| 0x0002#16
          counters := s.counters.put (.ofCam c .edges)
            (counterNext s.items.global.counterWrap (s.counters.get (.ofCam c .edges)))
          cams := cams } →
        exec (.camEdge c (s.cfg c).edge t) s =
          .next ((if j = 0 ∧ (s.cam c).phaser.state ≠ .fault then m.arbitrate c else m).takeEvent c j d))

/-- The first edge in a window in ENGINE_SYNC is measured (R28 to R31): the lane takes d, the window of d,
the valid flag, the miss run and the hit flag; EDGES increments; and at an update point the arbiter takes
the event before the sequencer (R71, R95). Its angle is the clock's (R14, R27), but for an edge taken first on
the very tick whose motion closes the window: that edge lies in the window and is measured (R38), at the
angle before the motion (log 30). -/
def Obligations.EdgeIsMeasured : Prop :=
  (∀ (g : GlobalItems) (ws : List Window) (k : Tooth) (y : Cycle) (t old new : Nat) (closes : Prop),
    new = clockAt g k 11520 t → old = clockAt g k 11520 (t - 1) →
    (closes ↔ k.lastTooth < t ∧ ∃ w ∈ ws, w.contains old = true ∧ w.passed = false ∧
      angleSub y.coveredFrom k.angle ≤ angleSub new k.angle ∧
      covers y.coveredFrom new w.closeAngle = true) →
    (closes → edgeAngle g ws k y t = old ∧ (windowAt ws (edgeAngle g ws k y t)).isSome = true) ∧
    (¬ closes → edgeAngle g ws k y t = new)) ∧
  ∀ (c : Cam) (t a j : Nat) (s m : State) (k : Tooth) (y : Cycle) (w : Window) (d : Int),
    s.now ≤ t → s.enabled c = true → s.tracker.sync = .engineSync k y →
    a = edgeAngle s.items.global (s.cam c).lane.windows k y t → windowAt (s.cam c).lane.windows a = some j →
    (s.cam c).lane.windows[j]? = some w → w.hit = false →
    d = (match (s.cfg c).direction with | .advance => 1 | .retard => -1) *
        Machine.norm ((w.base : Int) - (a : Int)) - (s.cam c).lane.offset →
    m = { s with
      now := t
      tracker := ⟨.engineSync k
        (if c = s.items.global.referenceCam then { y with refHit := true } else y), s.tracker.speed⟩
      counters := s.counters.put (.ofCam c .edges)
        (counterNext s.items.global.counterWrap (s.counters.get (.ofCam c .edges)))
      cams := s.cams.set c { s.cam c with lane :=
        { (s.cam c).lane with
          d := d, dWindow := j, valid := true, missRun := 0
          windows := (s.cam c).lane.windows.set j { w with hit := true } } } } →
    exec (.camEdge c (s.cfg c).edge t) s =
      .next ((if j = 0 ∧ (s.cam c).phaser.state ≠ .fault then m.arbitrate c else m).takeEvent c j d)

/-- A second edge in a window counts as STRAY alone (R32), and so does an out-of-window edge, which on the
reference cam also counts in HALF_MISMATCH when it lies in a window shifted by 5,760 (R33); the tracker's
per-cycle flags are kept from the same edges (R18). -/
def Obligations.StrayEdgesAreCounted : Prop :=
  ∀ (c : Cam) (t a : Nat) (s : State) (k : Tooth) (y : Cycle) (stray : Counters),
    s.now ≤ t → s.enabled c = true → s.tracker.sync = .engineSync k y →
    a = edgeAngle s.items.global (s.cam c).lane.windows k y t →
    stray = s.counters.put (.ofCam c .stray)
      (counterNext s.items.global.counterWrap (s.counters.get (.ofCam c .stray))) →
    (∀ j w, windowAt (s.cam c).lane.windows a = some j → (s.cam c).lane.windows[j]? = some w →
      w.hit = true →
      exec (.camEdge c (s.cfg c).edge t) s =
        .next { s with
          now := t, counters := stray
          tracker := ⟨.engineSync k
            (if c = s.items.global.referenceCam then { y with refHit := true } else y),
            s.tracker.speed⟩ }) ∧
    (windowAt (s.cam c).lane.windows a = none →
      exec (.camEdge c (s.cfg c).edge t) s =
        .next
          (if c = s.items.global.referenceCam ∧
              (windowAt (s.cam c).lane.windows ((a + 5760) % 11520)).isSome = true then
            { s with
              now := t
              counters := stray.put (.ofCam c .halfMismatch)
                (counterNext s.items.global.counterWrap (s.counters.get (.ofCam c .halfMismatch)))
              tracker := ⟨.engineSync k { y with mismatch := true }, s.tracker.speed⟩ }
          else { s with now := t, counters := stray }))

/-- A window holds exactly the angles from its start to its last angle: the start and the last angle lie
in it, the angle before the start and the close angle do not, and windows may straddle angle 0 (R25). -/
def Obligations.WindowHoldsItsRange : Prop :=
  ∀ (w : Window) (a : Nat), w.start < 11520 → 1 ≤ w.width → w.width ≤ 1601 → a < 11520 →
    (w.contains a = true ↔ ∃ n, n < w.width ∧ a = (w.start + n) % 11520) ∧
    w.contains ((w.start + w.width - 1) % 11520) = true ∧
    w.contains ((w.start + 11519) % 11520) = false ∧ w.contains w.closeAngle = false

/-- The displacement of an edge in a window, before L, lies between −MARGIN and TRAVEL + MARGIN, with the
values of R24's table at the window's ends; L shifts it (R29). -/
def Obligations.DisplacementLiesInTravel : Prop :=
  ∀ (x : CamItems) (base a : Nat) (offset : Int),
    x.travel ≤ 1280 → x.margin ≤ 160 → base < 11520 → a < 11520 →
    (buildWindow x base).contains a = true →
    displacement x offset base a = displacement x 0 base a - offset ∧
    -(x.margin : Int) ≤ displacement x 0 base a ∧
    displacement x 0 base a ≤ (x.travel : Int) + (x.margin : Int) ∧
    (a = (buildWindow x base).start →
      displacement x 0 base a =
        match x.direction with
        | .advance => (x.travel : Int) + (x.margin : Int)
        | .retard => -(x.margin : Int)) ∧
    (a = ((buildWindow x base).start + (buildWindow x base).width - 1) % 11520 →
      displacement x 0 base a =
        match x.direction with
        | .advance => -(x.margin : Int)
        | .retard => (x.travel : Int) + (x.margin : Int))

/-- A window's close by interpolation tests its pass and begins the next (R36): a hit or an excused pass
counts nothing; a miss counts in MISSED and raises the miss run, and the one that brings it to MISS_LIMIT
clears the valid flag and reports SIGNAL (R37): the cam enters FAULT, its result cleared, its entries PENDING and
its learn aborted (R87, R109), or in FAULT already keeps its causes and adds this one (R110); with MISS_LIMIT 1
after a CLEAR_FAULT too, which is the model's choice (log 31). Where the clock has not passed the close angle, nothing
closes (log 2). -/
def Obligations.WindowCloseTestsThePass : Prop :=
  ∀ (c : Cam) (j t new : Nat) (s : State) (k : Tooth) (y : Cycle) (w : Window) (l : Lane),
    s.now ≤ t → s.tracker.sync = .engineSync k y → s.enabled c = true →
    (s.cam c).lane.windows[j]? = some w → w.passed = false → new = clockAt s.items.global k 11520 t →
    l = { (s.cam c).lane with
      windows := (s.cam c).lane.windows.set j { w with hit := false, late := false, passed := true } } →
    (covers y.coveredFrom new w.closeAngle = false →
      exec (.windowClose c j t) s = .next { s with now := t }) ∧
    (covers y.coveredFrom new w.closeAngle = true → angleSub y.coveredFrom k.angle ≤ angleSub new k.angle →
      ((w.hit = true ∨ w.late = true) →
        exec (.windowClose c j t) s =
          .next { s with now := t, cams := s.cams.set c { s.cam c with lane := l } }) ∧
      (w.hit = false → w.late = false → (s.cam c).lane.missRun + 1 ≠ (s.cfg c).missLimit →
        exec (.windowClose c j t) s =
          .next { s with
            now := t
            counters := s.counters.put (.ofCam c .missed)
              (counterNext s.items.global.counterWrap (s.counters.get (.ofCam c .missed)))
            cams := s.cams.set c { s.cam c with lane := { l with
              missRun := if l.missRun < (s.cfg c).missLimit then l.missRun + 1 else l.missRun } } }) ∧
      (w.hit = false → w.late = false → (s.cam c).lane.missRun + 1 = (s.cfg c).missLimit →
        exec (.windowClose c j t) s =
          .next (({ s with
            now := t
            counters := s.counters.put (.ofCam c .missed)
              (counterNext s.items.global.counterWrap (s.counters.get (.ofCam c .missed)))
            cams := s.cams.set c { s.cam c with lane :=
              { l with missRun := (s.cfg c).missLimit, valid := false } } }).reported c .signal)))

/-! ## Demand table (03) -/

/-- A lawful POST creates its record, every entry PENDING, in the lowest-numbered free slot, and answers
the handle formed from the slot's generation (R44, R52). -/
def Obligations.PostCreatesTheRecord : Prop :=
  ∀ (s : State) (f : PostForm) (r : Record) (slot : Nat) (x : Slot),
    s.mode = .run → s.delivers .post f.bytes → f.LaidOut → ¬ f.BadField s →
    s.table[slot]? = some x → x.record = none →
    (∀ i z, i < slot → s.table[i]? = some z → z.record.isSome = true) →
    r.owner = f.owner → r.cls.code = f.cls → r.cams = camSetOf f.cams → r.rank = f.rank →
    r.first = f.first → r.second = f.second → r.lifetime = f.lifetime → r.remaining = f.lifetime →
    r.band = f.band → r.cap = f.cap → r.outcomes = .const ⟨.pending, false⟩ →
    exec .post s =
      .next (({ s with table := s.table.set slot { x with record := some r } }).answered .post .ok
        [u8 (32 * x.generation + slot)])

/-- A POST of the wrong length is refused with BAD_LENGTH, one with a field in error with BAD_FIELD, and a
lawful one that finds every slot occupied with TABLE_FULL, which alone counts in FULL_REFUSALS (R51, R52). -/
def Obligations.PostIsRefused : Prop :=
  ∀ (s : State), s.mode = .run →
    (∀ p, s.delivers .post p →
      (∀ flags, p[9]? = some flags →
        p.length ≠ 10 + 4 * (flags.getLsbD 0).toNat + (flags.getLsbD 1).toNat) →
      exec .post s = .next (s.answered .post .badLength [])) ∧
    (∀ f : PostForm, s.delivers .post f.bytes → f.LaidOut →
      (f.BadField s → exec .post s = .next (s.answered .post .badField [])) ∧
      (¬ f.BadField s → (∀ x ∈ s.table, x.record.isSome = true) →
        exec .post s =
          .next (({ s with counters := { s.counters with
              fullRefusals := counterNext s.items.global.counterWrap s.counters.fullRefusals } }).answered
            .post .tableFull [])))

/-- The requests that one mode alone takes are refused in the other with WRONG_MODE, before every other
check, and nothing else changes (R50, R112, R113, R151, R154, R157). -/
def Obligations.WrongModeIsRefused : Prop :=
  ∀ (s : State) (r : Request) (p : List Byte) (t : Nat), s.delivers r p → s.now ≤ t →
    (s.mode = .config →
      r ∈ [Request.post, .amend, .renew, .retire, .retireOwner, .query, .scan, .learn, .clearFault, .reopen] →
      exec (r.command t) s = .next (s.answered r .wrongMode [])) ∧
    (s.mode = .run →
      (r = .configWrite → exec .configWrite s = .next (s.answered r .wrongMode [])) ∧
      (r = .commit → exec (.commit t) s = .next (({ s with now := t }).answered r .wrongMode [])))

/-- A request answered with anything but OK changes nothing but its own answer, and its payload is empty;
TABLE_FULL also counts, and CONFIG_INVALID carries its two bytes (R50, R151, R154, R157, R180). -/
def Obligations.RefusalChangesNothing : Prop :=
  ∀ (s u : State) (r : Request) (p : List Byte) (t : Nat) (result : Result) (payload : List Byte),
    s.delivers r p → s.now ≤ t → exec (r.command t) s = .next u →
    u.link.answer = some (.response r.code result payload) → result ≠ .ok →
    u = ({ s with now := u.now, counters := u.counters }).answered r result payload ∧
    (result ≠ .configInvalid → payload = []) ∧ (result = .configInvalid → payload.length = 2) ∧
    (result ≠ .tableFull → u.counters = s.counters) ∧
    (result = .tableFull → r = .post ∧
      u.counters = { s.counters with
        fullRefusals := counterNext s.items.global.counterWrap s.counters.fullRefusals })

/-- A lawful AMEND of a live record changes it as its flags say, sets its outcomes to PENDING and leaves
its slot, generation, owner, class and cam set (R54); a field in error is refused with BAD_FIELD, before it a
stale handle with STALE, and before both a length other than its flags call for with BAD_LENGTH (R50, R53). -/
def Obligations.AmendChangesTheRecord : Prop :=
  (∀ (s : State) (p : List Byte), s.mode = .run → s.delivers .amend p →
    (∀ flags, p[1]? = some flags →
      p.length ≠ 2 + 4 * (flags.getLsbD 0).toNat + (flags.getLsbD 1).toNat + (flags.getLsbD 2).toNat
        + 4 * (flags.getLsbD 3).toNat + (flags.getLsbD 5).toNat) →
    exec .amend s = .next (s.answered .amend .badLength [])) ∧
  (∀ (s : State) (f : AmendForm),
    s.mode = .run → s.delivers .amend f.bytes → f.LaidOut → s.stale (u8 f.handle) →
    exec .amend s = .next (s.answered .amend .stale [])) ∧
  ∀ (s : State) (f : AmendForm) (r : Record),
    s.mode = .run → s.delivers .amend f.bytes → f.LaidOut → s.live (u8 f.handle) r →
    (f.BadField r.cls → exec .amend s = .next (s.answered .amend .badField [])) ∧
    (¬ f.BadField r.cls → ∀ r', f.Changes r r' →
      exec .amend s =
        .next (({ s with
          table := s.table.set (f.handle % 32) ⟨f.handle / 32, some r'⟩ }).answered .amend .ok []))

/-- A RENEW of 1 to 8 handles sets remaining to the lifetime of every live record it names, changes
nothing else, and answers OK or STALE for each handle in request order; any other length is refused with
BAD_LENGTH (R55). -/
def Obligations.RenewRestoresRemaining : Prop :=
  ∀ (s : State) (p : List Byte), s.mode = .run → s.delivers .renew p →
    (p.length = 0 ∨ 8 < p.length → exec .renew s = .next (s.answered .renew .badLength [])) ∧
    (1 ≤ p.length → p.length ≤ 8 →
      ∃ (table : List Slot) (results : List Byte),
        exec .renew s = .next (({ s with table := table }).answered .renew .ok results) ∧
        results.length = p.length ∧
        (∀ (i : Nat) (h : Byte), p[i]? = some h →
          ((∃ r, s.live h r) → results[i]? = some 0x00#8) ∧ (s.stale h → results[i]? = some 0x08#8)) ∧
        table.length = s.table.length ∧
        ∀ (i : Nat) (x : Slot), s.table[i]? = some x →
          ((∃ h ∈ p, h.toNat % 32 = i ∧ h.toNat / 32 = x.generation) →
            table[i]? =
              some { x with record := x.record.map (fun (r : Record) => { r with remaining := r.lifetime }) }) ∧
          ((∀ h ∈ p, ¬ (h.toNat % 32 = i ∧ h.toNat / 32 = x.generation)) → table[i]? = some x))

/-- A RETIRE frees the slot of the live record it names and advances its generation, so that a second
RETIRE of the same handle is stale; a stale handle is answered STALE and another length BAD_LENGTH
(R49, R56). -/
def Obligations.RetireFreesTheSlot : Prop :=
  ∀ (s : State) (p : List Byte), s.mode = .run → s.delivers .retire p →
    (p.length ≠ 1 → exec .retire s = .next (s.answered .retire .badLength [])) ∧
    (∀ h, p = [h] → s.stale h → exec .retire s = .next (s.answered .retire .stale [])) ∧
    (∀ (h : Byte) (r : Record), p = [h] → s.live h r →
      ∃ u : State, exec .retire s = .next (u.answered .retire .ok []) ∧
        u = { s with table := s.table.set (h.toNat % 32) ⟨(h.toNat / 32 + 1) % 8, none⟩ } ∧ u.stale h)

/-- A RETIRE_OWNER retires every live record of its owner in one event and answers their number; another
length is refused with BAD_LENGTH and an owner above 15 with BAD_FIELD (R57). -/
def Obligations.RetireOwnerFreesItsRecords : Prop :=
  ∀ (s : State) (p : List Byte), s.mode = .run → s.delivers .retireOwner p →
    (p.length ≠ 1 → exec .retireOwner s = .next (s.answered .retireOwner .badLength [])) ∧
    (∀ owner : Byte, p = [owner] → 15 < owner.toNat →
      exec .retireOwner s = .next (s.answered .retireOwner .badField [])) ∧
    (∀ owner : Byte, p = [owner] → owner.toNat ≤ 15 →
      exec .retireOwner s =
        .next (({ s with
          table := s.table.map (fun (x : Slot) =>
            if x.record.any (fun (r : Record) => decide (r.owner = owner.toNat)) = true then
              ⟨(x.generation + 1) % 8, none⟩
            else x) }).answered .retireOwner .ok
          [u8 (s.table.countP
            (fun (x : Slot) => x.record.any (fun (r : Record) => decide (r.owner = owner.toNat))))]) ∧
      (s.table.length = 32 →
        s.table.countP (fun (x : Slot) => x.record.any (fun (r : Record) => decide (r.owner = owner.toNat))) ≤ 32))

/-- QUERY answers the live record's fields and outcomes in the layout of R170 (R58); SCAN answers the count
and the handles of the records selected, in ascending slot order (R59). Neither changes anything. A stale
handle is answered STALE, a selector out of range BAD_FIELD and another length BAD_LENGTH (R50). A class, a
standing and a cam set are sent as R170 and R182 code them. -/
def Obligations.QueryAndScanReport : Prop :=
  ([Class.override, .blend, .limit].map Class.code = [0, 1, 2]) ∧
  ([Standing.pending, .winning, .shadowed, .contributing, .binding, .slack, .conflicted, .dormant,
    .suppressed].map Standing.code = [0, 1, 2, 3, 4, 5, 6, 7, 8]) ∧
  (∀ p : PerCam Bool, (camSetByte p).toNat < 16 ∧ ∀ c : Cam, (camSetByte p).getLsbD c.index = p.get c) ∧
  ∀ (s : State), s.mode = .run → s.table.length = 32 →
    (∀ (h : Byte) (r : Record), s.delivers .query [h] → s.live h r →
      exec .query s =
        .next (s.answered .query .ok
          ([h, u8 r.owner, u8 r.cls.code, camSetByte r.cams, u8 r.rank] ++ be16 r.first
            ++ be16 (if r.cls = .limit then r.second else 0)
            ++ [u8 r.lifetime, u8 r.remaining, u8 (r.band.isSome.toNat + 2 * r.cap.isSome.toNat)]
            ++ pairBytes (some (r.band.getD (0, 0))) ++ [u8 (r.cap.getD 0)]
            ++ (Cam.all.filter r.cams.get).map
              (fun c => u8 ((r.outcomes.get c).standing.code + 128 * (r.outcomes.get c).clipped.toNat))))) ∧
    (∀ h : Byte, s.delivers .query [h] → s.stale h → exec .query s = .next (s.answered .query .stale [])) ∧
    (∀ p, s.delivers .query p → p.length ≠ 1 → exec .query s = .next (s.answered .query .badLength [])) ∧
    (∀ p, s.delivers .scan p → p.length ≠ 1 → exec .scan s = .next (s.answered .scan .badLength [])) ∧
    (∀ owner : Byte, s.delivers .scan [owner] → owner.toNat ≤ 15 ∨ owner = 0xFF#8 →
      ∃ handles : List Nat,
        exec .scan s = .next (s.answered .scan .ok (u8 handles.length :: handles.map u8)) ∧
        (handles.map (fun (n : Nat) => n % 32)).Pairwise (fun (a b : Nat) => a < b) ∧
        (∀ n ∈ handles, ∃ x, s.table[n % 32]? = some x ∧ n = 32 * x.generation + n % 32) ∧
        ∀ (slot : Nat) (x : Slot), s.table[slot]? = some x →
          (32 * x.generation + slot ∈ handles ↔
            ∃ r, x.record = some r ∧ (owner = 0xFF#8 ∨ r.owner = owner.toNat))) ∧
    (∀ selector : Byte, s.delivers .scan [selector] → 15 < selector.toNat → selector ≠ 0xFF#8 →
      exec .scan s = .next (s.answered .scan .badField []))

/-- A handle names a live record exactly when its slot is occupied and the generations agree (R44); its
slot and generation are its remainder and quotient by 32; and the eighth retirement, and none before it,
returns a slot's generation. -/
def Obligations.HandleNamesOneRecord : Prop :=
  (∀ (t : List Slot) (h : Nat) (r : Record),
    lookup t h = some r ↔ ∃ x, t[h % 32]? = some x ∧ x.record = some r ∧ x.generation = h / 32) ∧
  (∀ slot g, slot < 32 → g < 8 →
    handleOf slot g < 256 ∧ handleOf slot g % 32 = slot ∧ handleOf slot g / 32 = g) ∧
  ∀ (g n : Nat) (r : Record), g < 8 → 1 ≤ n → n ≤ 8 →
    ((Nat.repeat (fun g => (Slot.retire ⟨g, some r⟩).generation) n g = g) ↔ n = 8)

/-- A cycle mark counts every counted record down and retires those that reach 0, passes standing records
by, counts each lapse in LAPSED_DEMANDS and sets DEMAND_LAPSED if there is one (R47, R60). -/
def Obligations.CycleMarkCountsLifetimes : Prop :=
  ∀ (t : Nat) (s : State) (k : Tooth) (y : Cycle),
    s.now ≤ t → s.mode = .run → s.tracker.sync = .engineSync k y → y.half = .second →
    ¬ s.tracker.sync.Noise t →
    longPeriod s.items.global.missing (toothPeriod k.lastTooth t) k.pitch = true →
    k.position = s.items.global.teeth - s.items.global.missing - 1 →
    ∃ u, exec (.crkEdge s.items.global.crankEdge t) s = .next u ∧
      u.table.length = s.table.length ∧
      (∀ (i : Nat) (x : Slot), s.table[i]? = some x →
        (x.record = none → u.table[i]? = some x) ∧
        ∀ r, x.record = some r →
          (r.lifetime ≠ 0 → r.remaining ≤ 1 → u.table[i]? = some ⟨(x.generation + 1) % 8, none⟩) ∧
          (r.lifetime = 0 ∨ 1 < r.remaining →
            ∃ o : PerCam Outcome, u.table[i]? =
              some ⟨x.generation, some { r with
                remaining := (if r.lifetime = 0 then r.remaining else r.remaining - 1)
                outcomes := o }⟩)) ∧
      u.counters.lapsedDemands =
        Nat.repeat (counterNext s.items.global.counterWrap)
          (s.table.countP (fun (x : Slot) =>
            x.record.any (fun (r : Record) => decide (r.lifetime ≠ 0 ∧ r.remaining ≤ 1))))
          s.counters.lapsedDemands ∧
      ((∃ x ∈ s.table, ∃ r ∈ x.record, r.lifetime ≠ 0 ∧ r.remaining ≤ 1) →
        u.noticeSet .demandLapsed = true)

/-- A link loss purges the table, advancing the generation of every occupied slot, counts in LINK_LOSSES,
sets LINK_LOST and restarts the timer from that instant (R63, R173; log 3, log 20); before LINK_MS has
passed nothing comes about (log 2). -/
def Obligations.LinkLossPurgesTheTable : Prop :=
  ∀ (t : Nat) (s : State), s.now ≤ t →
    ((∀ t0, s.link.timer = some t0 → t < t0 + s.items.global.linkMs * 10000) →
      exec (.linkLoss t) s = .next { s with now := t }) ∧
    (∀ t0, s.link.timer = some t0 → t0 + s.items.global.linkMs * 10000 ≤ t →
      exec (.linkLoss t) s =
        .next { s with
          now := t
          table := s.table.map
            (fun (x : Slot) => if x.record.isSome = true then ⟨(x.generation + 1) % 8, none⟩ else x)
          link := { s.link with timer := some t }
          counters := { s.counters with
            linkLosses := counterNext s.items.global.counterWrap s.counters.linkLosses }
          notices := s.notices ||| 0x0020#16 })

/-! ## Arbitration (04) -/

/-- The override of highest priority wins, the lowest slot among equals, and forms the base alone (R77);
without one the blends form it (R78), and without either DEFAULT_TARGET does (R79). -/
def Obligations.HighestOverrideWins : Prop :=
  ∀ (x : CamItems) (speed : Nat) (c : Cam) (t : List Slot) (es : List Entry),
    es = applicable speed (naming c t) →
    (∀ w, (plan x es).override = some w →
      w ∈ es ∧ w.record.cls = .override ∧ (plan x es).base = w.record.first ∧
      (plan x es).winner = .handle (32 * w.generation + w.slot) ∧ (plan x es).contributors = 1 ∧
      ∀ e ∈ es, e.record.cls = .override →
        e.record.rank < w.record.rank ∨ (e.record.rank = w.record.rank ∧ w.slot ≤ e.slot)) ∧
    ((plan x es).override = none →
      (∀ e ∈ es, e.record.cls ≠ .override) ∧
      ((∃ e ∈ es, e.record.cls = .blend) →
        (plan x es).winner = .blend ∧
        (plan x es).base = blendMean (es.filter (fun e => decide (e.record.cls = .blend))) ∧
        (plan x es).contributors = es.countP (fun e => decide (e.record.cls = .blend))) ∧
      ((∀ e ∈ es, e.record.cls ≠ .blend) →
        (plan x es).winner = .default ∧ (plan x es).base = x.defaultTarget ∧
        (plan x es).contributors = 0))

/-- The blend base is the weighted mean rounded to the nearest integer, halves up: with S and W the sums,
W × (2 × base − 1) ≤ 2 × S < W × (2 × base + 1); it lies between the least and the greatest target, and a
single blend gives its own target (R78). -/
def Obligations.BlendMeanRoundsHalvesUp : Prop :=
  ∀ (es : List Entry) (S W : Nat), es ≠ [] → (∀ e ∈ es, 1 ≤ e.record.rank) →
    S = (es.map (fun e => e.record.rank * e.record.first)).sum →
    W = (es.map (fun e => e.record.rank)).sum →
    2 * W * blendMean es ≤ 2 * S + W ∧ 2 * S + W < 2 * W * (blendMean es + 1) ∧
    (∀ lo hi, (∀ e ∈ es, lo ≤ e.record.first ∧ e.record.first ≤ hi) →
      lo ≤ blendMean es ∧ blendMean es ≤ hi) ∧
    (∀ e, es = [e] → blendMean es = e.record.first)

/-- Without applied limits E1 is the base; with limits that agree it is the base clamped between the
greatest floor and the least ceiling; in a conflict it is the base clamped by the applied limit of highest
priority alone, the lowest slot among equals (R80 to R82). E is E1 clamped to TRAVEL (R83). -/
def Obligations.LimitsBoundTheTarget : Prop :=
  ∀ (x : CamItems) (speed : Nat) (c : Cam) (t : List Slot) (p : Plan),
    p = plan x (applicable speed (naming c t)) →
    p.target = min p.e1 x.travel ∧
    (∀ e, e ∈ p.applied ↔
      e ∈ applicable speed (naming c t) ∧ e.record.cls = .limit ∧
        ∀ w, p.override = some w → w.record.rank < e.record.rank) ∧
    (p.applied = [] → p.e1 = p.base ∧ p.floor = 0 ∧ p.ceiling = 2047 ∧ p.used = none) ∧
    (p.applied ≠ [] → p.used = none →
      (∃ e ∈ p.applied, e.record.first = p.floor) ∧ (∀ e ∈ p.applied, e.record.first ≤ p.floor) ∧
      (∃ e ∈ p.applied, e.record.second = p.ceiling) ∧ (∀ e ∈ p.applied, p.ceiling ≤ e.record.second) ∧
      p.floor ≤ p.ceiling ∧ p.e1 = max p.floor (min p.base p.ceiling)) ∧
    (∀ l, p.used = some l →
      l ∈ p.applied ∧ (∃ a ∈ p.applied, ∃ b ∈ p.applied, b.record.second < a.record.first) ∧
      (∀ e ∈ p.applied, e.record.rank < l.record.rank ∨
        (e.record.rank = l.record.rank ∧ l.slot ≤ e.slot)) ∧
      p.floor = l.record.first ∧ p.ceiling = l.record.second ∧
      (l.record.first ≤ l.record.second →
        p.e1 = max l.record.first (min p.base l.record.second)))

/-- An arbitration that is not suppressed takes its result from `plan` over the applicable records naming the
cam (R72, R76), of which HighestOverrideWins and LimitsBoundTheTarget say what it is: E, the winner, the
contributor count and the applied floor and ceiling (R77 to R83); the active slew is the lesser of SLEW and
a winning override's cap, and SLEW without one (R85); LIMIT_CONFLICT is set where the limits conflict, and no
other notice (R82). Every record naming the cam takes one standing: DORMANT outside its band (R76); WINNING
or SHADOWED an override (R77); CONTRIBUTING a blend, or SHADOWED under an override (R77, R78); SHADOWED a
limit that the winner outranks or equals, CONFLICTED one that a conflict sets aside, and BINDING or SLACK
any other (R80 to R82). The clipped flag stands on WINNING and CONTRIBUTING entries alone and says that E
differs from the base (R84). Records not naming the cam, other cams' entries and every field are left. -/
def Obligations.StandingsFollowTheClass : Prop :=
  ∀ (s u : State) (c : Cam) (p : Plan), s.table.length = 32 → u = s.arbitrate c →
    ¬ (s.tracker.speed < s.items.global.suppressRpm) →
    (s.items.global.releaseRpm ≤ s.tracker.speed ∨ (s.cam c).arbiter.suppressed = false) →
    p = plan (s.cfg c) (applicable s.tracker.speed (naming c s.table)) →
    (u.cam c).arbiter.target = p.target ∧ (u.cam c).arbiter.winner = p.winner ∧
    (u.cam c).arbiter.contributors = p.contributors ∧ (u.cam c).arbiter.appliedFloor = p.floor ∧
    (u.cam c).arbiter.appliedCeiling = p.ceiling ∧ (u.cam c).arbiter.speedUsed = s.tracker.speed ∧
    (u.cam c).arbiter.suppressed = false ∧
    (∀ cap, (∃ w, p.override = some w ∧ w.record.cap = some cap) →
      (u.cam c).arbiter.activeSlew (u.cfg c) = min (s.cfg c).slew cap) ∧
    ((∀ w, p.override = some w → w.record.cap = none) →
      (u.cam c).arbiter.activeSlew (u.cfg c) = (s.cfg c).slew) ∧
    u.notices = (if (∃ a ∈ p.applied, ∃ b ∈ p.applied, b.record.second < a.record.first) then
      s.notices ||| 0x0040#16 else s.notices) ∧
    u.table.length = 32 ∧
    ∀ (i : Nat) (x : Slot) (r : Record), s.table[i]? = some x → x.record = some r →
      ∃ o : Outcome,
        u.table[i]? =
          some ⟨x.generation,
            some (if r.cams.get c = true then { r with outcomes := r.outcomes.set c o } else r)⟩ ∧
        (r.cams.get c = true →
          ((∃ lo hi, r.band = some (lo, hi) ∧ ¬ (lo ≤ s.tracker.speed ∧ s.tracker.speed ≤ hi)) →
            o = ⟨.dormant, false⟩) ∧
          ((∀ lo hi, r.band = some (lo, hi) → lo ≤ s.tracker.speed ∧ s.tracker.speed ≤ hi) →
            (r.cls = .override →
              ((∃ w, p.override = some w ∧ w.slot = i) →
                o = ⟨.winning, decide (p.target ≠ r.first)⟩ ∧
                (u.cam c).arbiter.winner = .handle (32 * x.generation + i)) ∧
              ((∀ w, p.override = some w → w.slot ≠ i) → o = ⟨.shadowed, false⟩)) ∧
            (r.cls = .blend →
              (p.override = none → o = ⟨.contributing, decide (p.target ≠ p.base)⟩) ∧
              (p.override ≠ none → o = ⟨.shadowed, false⟩)) ∧
            (r.cls = .limit →
              ((∃ w, p.override = some w ∧ r.rank ≤ w.record.rank) → o = ⟨.shadowed, false⟩) ∧
              ((∀ w, p.override = some w → w.record.rank < r.rank) →
                ((∃ l, p.used = some l ∧ l.slot ≠ i) → o = ⟨.conflicted, false⟩) ∧
                ((∀ l, p.used = some l → l.slot = i) →
                  ((p.base < r.first ∧ p.e1 = r.first) ∨ (r.second < p.base ∧ p.e1 = r.second) →
                    o = ⟨.binding, false⟩) ∧
                  (¬ ((p.base < r.first ∧ p.e1 = r.first) ∨ (r.second < p.base ∧ p.e1 = r.second)) →
                    o = ⟨.slack, false⟩))))))

/-- The suppression flag is set below SUPPRESS_RPM, clear from RELEASE_RPM up and kept between (R74); a
suppressed arbitration gives E 0 by DEFAULT with the cam's SLEW, stands every record naming the cam
SUPPRESSED, and sets no notice (R75). -/
def Obligations.LowSpeedSuppresses : Prop :=
  ∀ (s u : State) (c : Cam) (flag : Bool), u = s.arbitrate c →
    s.items.global.suppressRpm < s.items.global.releaseRpm →
    (s.tracker.speed < s.items.global.suppressRpm → flag = true) →
    (s.items.global.releaseRpm ≤ s.tracker.speed → flag = false) →
    (s.items.global.suppressRpm ≤ s.tracker.speed → s.tracker.speed < s.items.global.releaseRpm →
      flag = (s.cam c).arbiter.suppressed) →
    (u.cam c).arbiter.suppressed = flag ∧ (u.cam c).arbiter.speedUsed = s.tracker.speed ∧
    (flag = true →
      (u.cam c).arbiter.target = 0 ∧ (u.cam c).arbiter.winner = .default ∧
      (u.cam c).arbiter.contributors = 0 ∧ (u.cam c).arbiter.appliedFloor = 0 ∧
      (u.cam c).arbiter.appliedCeiling = 2047 ∧
      (u.cam c).arbiter.activeSlew (u.cfg c) = (s.cfg c).slew ∧ u.notices = s.notices ∧
      ∀ x ∈ u.table, ∀ r ∈ x.record, r.cams.get c = true → r.outcomes.get c = ⟨.suppressed, false⟩)

/-! ## Phaser sequencing (05) -/

/-- What the sequencer makes of a measurement event outside TRACKING and the learn (R95): nothing in
DISABLED, FORCED and FAULT (R107, R111); release begins at an update point with E above PARK_BAND (R97), is
abandoned at one with E at or below it (R98), and otherwise ends in TRACKING when d exceeds a non-zero
UNLOCK_THRESHOLD (R99), with the preset of R102. -/
def Obligations.EventsReleaseAndUnlock : Prop :=
  ∀ (s : State) (c : Cam) (j : Nat) (d : Int),
    ((s.cam c).phaser.state ∈ [PhaserState.disabled, .forced, .fault] → s.takeEvent c j d = s) ∧
    ((s.cam c).phaser.state = .parked → j = 0 → (s.cfg c).parkBand < (s.cam c).arbiter.target →
      s.takeEvent c j d = { s with
        notices := s.abortNotices c
        cams := s.cams.set c { s.cam c with
          phaser := { (s.cam c).phaser.aborted with state := .releasing, releaseCount := 0 }
          channel := (s.cam c).channel.write s.parkLine (s.cfg c).releaseCurrent } }) ∧
    ((s.cam c).phaser.state = .releasing → j = 0 → (s.cam c).arbiter.target ≤ (s.cfg c).parkBand →
      s.takeEvent c j d = { s with
        cams := s.cams.set c { s.cam c with
          phaser := { (s.cam c).phaser with state := .parked, releaseCount := 0 }
          channel := (s.cam c).channel.write s.parkLine 0 } }) ∧
    ((s.cam c).phaser.state = .releasing → (j ≠ 0 ∨ (s.cfg c).parkBand < (s.cam c).arbiter.target) →
      (0 < (s.cfg c).unlockThreshold → ((s.cfg c).unlockThreshold : Int) < d →
        s.takeEvent c j d = { s with
          cams := s.cams.set c { s.cam c with phaser := (s.cam c).phaser.tracks, loop := s.preset c } }) ∧
      ((s.cfg c).unlockThreshold = 0 ∨ d ≤ ((s.cfg c).unlockThreshold : Int) → s.takeEvent c j d = s))

/-- What the sequencer makes of a cycle mark (R96): in RELEASING the count rises, and the mark that brings
it to a non-zero UNLOCK_CYCLES enters TRACKING (R100) while one that brings it to RELEASE_LIMIT alone is
STUCK (R101); in TRACKING the cycle's following-error record closes, and the run that reaches
TRACK_ERR_CYCLES is FOLLOWING, unless TRACK_ERR_LIMIT is 0 (R104); elsewhere nothing changes. -/
def Obligations.CycleMarkMovesTheSequencer : Prop :=
  ∀ (s m : State) (c : Cam) (q : Sequencer), q = (s.cam c).phaser →
    (q.state ∈ [PhaserState.disabled, .parked, .forced, .fault] → s.cycleMark c = s) ∧
    (q.state = .releasing →
      m = { s with cams := s.cams.set c { s.cam c with
        phaser := { q with releaseCount := q.releaseCount + 1 } } } →
      (0 < (s.cfg c).unlockCycles → q.releaseCount + 1 = (s.cfg c).unlockCycles →
        s.cycleMark c = { s with cams := s.cams.set c { s.cam c with
            phaser := { q.tracks with releaseCount := q.releaseCount + 1 }, loop := s.preset c } }) ∧
      ((s.cfg c).unlockCycles = 0 ∨ q.releaseCount + 1 ≠ (s.cfg c).unlockCycles →
        (q.releaseCount + 1 = (s.cfg c).releaseLimit → s.cycleMark c = m.faulted c .stuck) ∧
        (q.releaseCount + 1 ≠ (s.cfg c).releaseLimit → s.cycleMark c = m))) ∧
    (q.state = .tracking → (s.cfg c).trackErrLimit = 0 → s.cycleMark c = s) ∧
    (q.state = .tracking → (s.cfg c).trackErrLimit ≠ 0 →
      ∀ run, run = (if q.eventSeen = false then q.errorRun else if q.allOver = true then q.errorRun + 1 else 0) →
      m = { s with cams := s.cams.set c { s.cam c with
        phaser := { q with errorRun := run, eventSeen := false, allOver := true } } } →
      (run = (s.cfg c).trackErrCycles → s.cycleMark c = m.faulted c .following) ∧
      (run ≠ (s.cfg c).trackErrCycles → s.cycleMark c = m))

/-- LEARN (R113) begins a learn on a PARKED cam in ENGINE_SYNC, is answered BUSY during one, NOT_READY
elsewhere, BAD_FIELD for a cam index above 3 and BAD_LENGTH for another length; each event then taken in
PARKED adds d to the sum (R114), and the eighth ends the learn: L takes L + mean, the mean of the samples
with halves up, if that lies within LEARN_LIMIT, and the result is DONE; otherwise it is FAILED (R115). That a
LEARN is taken for a PARKED cam whose sequencer has yet to take an assertion is the model's choice (log 33). -/
def Obligations.LearnTakesEightSamples : Prop :=
  ∀ (s : State), s.mode = .run →
    (∀ p, s.delivers .learn p → p.length ≠ 1 → exec .learn s = .next (s.answered .learn .badLength [])) ∧
    (∀ b : Byte, s.delivers .learn [b] → 3 < b.toNat →
      exec .learn s = .next (s.answered .learn .badField [])) ∧
    (∀ (b : Byte) (c : Cam), s.delivers .learn [b] → b.toNat = c.index →
      ((s.cam c).phaser.learning = true → exec .learn s = .next (s.answered .learn .busy [])) ∧
      ((s.cam c).phaser.learning = false →
        ((s.cam c).phaser.state ≠ .parked ∨ ¬ (∃ k y, s.tracker.sync = .engineSync k y) →
          exec .learn s = .next (s.answered .learn .notReady [])) ∧
        ((s.cam c).phaser.state = .parked → (∃ k y, s.tracker.sync = .engineSync k y) →
          exec .learn s =
            .next (({ s with cams := s.cams.set c { s.cam c with
                phaser := { (s.cam c).phaser with learning := true, samples := 0, sum := 0 } } }).answered
              .learn .ok [])))) ∧
    ∀ (c : Cam) (j : Nat) (d mean : Int) (q : Sequencer),
      q = (s.cam c).phaser → q.state = .parked → (j ≠ 0 ∨ (s.cam c).arbiter.target ≤ (s.cfg c).parkBand) →
      (q.learning = false → s.takeEvent c j d = s) ∧
      (q.learning = true → q.samples < 7 →
        s.takeEvent c j d = { s with cams := s.cams.set c { s.cam c with
          phaser := { q with samples := q.samples + 1, sum := q.sum + d } } }) ∧
      (q.learning = true → q.samples = 7 →
        8 * mean ≤ q.sum + d + 4 → q.sum + d + 4 < 8 * mean + 8 →
        ∀ done, (done = true ↔
            ((s.cam c).lane.offset + mean).natAbs ≤ s.items.global.learnLimit) →
          s.takeEvent c j d = { s with
            notices := s.notices ||| BitVec.twoPow 16 (12 + c.index)
            cams := s.cams.set c { s.cam c with
              lane := { (s.cam c).lane with
                offset := if done = true then (s.cam c).lane.offset + mean else (s.cam c).lane.offset }
              phaser := { q with
                samples := 8, sum := q.sum + d, learning := false
                lastLearn := if done = true then .done else .failed } } })

/-- CLEAR_FAULT (R112): a cam in FAULT has its causes emptied, enters FORCED under an asserted park line and
PARKED otherwise, and its channel is re-armed (R144) and its miss run 0 (R41); one that is not in FAULT is
answered NO_EFFECT, a cam index above 3 BAD_FIELD and another length BAD_LENGTH. -/
def Obligations.ClearFaultReleasesTheCam : Prop :=
  ∀ (s : State), Sound s → s.mode = .run →
    (∀ p, s.delivers .clearFault p → p.length ≠ 1 →
      exec .clearFault s = .next (s.answered .clearFault .badLength [])) ∧
    (∀ b : Byte, s.delivers .clearFault [b] → 3 < b.toNat →
      exec .clearFault s = .next (s.answered .clearFault .badField [])) ∧
    (∀ (b : Byte) (c : Cam), s.delivers .clearFault [b] → b.toNat = c.index →
      ((s.cam c).phaser.state ≠ .fault →
        exec .clearFault s = .next (s.answered .clearFault .noEffect [])) ∧
      ((s.cam c).phaser.state = .fault →
        exec .clearFault s =
          .next (({ s with cams := s.cams.set c { s.cam c with
              lane := { (s.cam c).lane with missRun := 0 }
              phaser := { (s.cam c).phaser with
                causes := ⟨false, false, false, false, false⟩
                state := (if s.parkLine = ParkLine.asserted then PhaserState.forced else PhaserState.parked) }
              channel := { (s.cam c).channel with
                command := 0, output := .off, duty := 0, limited := false, latch := .none
                openLoadRun := 0 } } }).answered .clearFault .ok [])))

/-! ## Position control (06) -/

/-- At each update R moves toward E by at most the active slew, and does not pass it (R121). -/
def Obligations.RampMovesTowardTheTarget : Prop :=
  ∀ (l : Loop) (x : CamItems) (target slew : Nat) (d : Int) (r : Nat),
    r = (l.update x target slew d).1.ramped →
    ((slew : Int) < (target : Int) - (l.ramped : Int) → r = l.ramped + slew) ∧
    ((slew : Int) < (l.ramped : Int) - (target : Int) → (r : Int) = (l.ramped : Int) - (slew : Int)) ∧
    (((target : Int) - (l.ramped : Int)).natAbs ≤ slew → r = target) ∧
    min l.ramped target ≤ r ∧ r ≤ max l.ramped target

/-- The command is u limited to 0 to IMAX, and the integrator takes acc′ unless u saturates in the
direction of the error (R127); u and acc′ are those of R125 and R126. -/
def Obligations.CommandSaturates : Prop :=
  ∀ (l : Loop) (x : CamItems) (target slew : Nat) (d e acc' u : Int) (n : Loop) (mA : Nat),
    (n, mA) = l.update x target slew d → e = (n.ramped : Int) - d →
    acc' = max (-((x.ilim : Int) * 64)) (min (l.integrator + (x.ki : Int) * e) ((x.ilim : Int) * 64)) →
    u = (x.holdCurrent : Int) + Int.tdiv ((x.kp : Int) * e + acc') 64 →
    ((x.imax : Int) < u → 0 < e → mA = x.imax ∧ n.integrator = l.integrator) ∧
    ((x.imax : Int) < u → e ≤ 0 → mA = x.imax ∧ n.integrator = acc') ∧
    (u < 0 → e < 0 → mA = 0 ∧ n.integrator = l.integrator) ∧
    (u < 0 → 0 ≤ e → mA = 0 ∧ n.integrator = acc') ∧
    (0 ≤ u → u ≤ (x.imax : Int) → (mA : Int) = u ∧ n.integrator = acc')

/-- An event in TRACKING updates the loop and writes the command to the channel (R120, R124 to R128); then
the park-return test (R103) returns the cam to PARKED at its second pass in a row, and otherwise the event
is recorded in the cycle error flags (R104; log 14). -/
def Obligations.TrackingEventUpdatesTheLoop : Prop :=
  ∀ (s : State) (c : Cam) (j : Nat) (d : Int) (l : Loop) (mA run : Nat) (q : Sequencer),
    q = (s.cam c).phaser → q.state = .tracking →
    (l, mA) = (s.cam c).loop.update (s.cfg c) (s.cam c).arbiter.target
      (match (s.cam c).arbiter.slewCap with | none => (s.cfg c).slew | some cap => min (s.cfg c).slew cap) d →
    run = (if (s.cam c).arbiter.target = 0 ∧ l.ramped = 0 ∧ d ≤ ((s.cfg c).parkBand : Int) then q.parkRun + 1
      else 0) →
    (run = 2 →
      s.takeEvent c j d = { s with cams := s.cams.set c { s.cam c with
          phaser := { q with state := .parked, parkRun := 0, errorRun := 0, eventSeen := false, allOver := true }
          loop := ⟨0, 0⟩
          channel := ((s.cam c).channel.write s.parkLine mA).write s.parkLine 0 } }) ∧
    (run ≠ 2 →
      s.takeEvent c j d = { s with cams := s.cams.set c { s.cam c with
          phaser := { q with
            parkRun := run
            eventSeen := if (s.cfg c).trackErrLimit = 0 then q.eventSeen else true
            allOver := if (s.cfg c).trackErrLimit = 0 then q.allOver
              else q.allOver && decide ((s.cfg c).trackErrLimit < ((l.ramped : Int) - d).natAbs) }
          loop := l
          channel := (s.cam c).channel.write s.parkLine mA } })

/-! ## Valve drivers (07) -/

/-- A command written is held, and the output follows its three conditions within the event (R135, R136):
driving starts with the switch closed at full duty (R138), and turning off opens the switch and clears the
duty, CURRENT_LIMITED and the open-load run (R140); a command below 100 mA clears the run. -/
def Obligations.OutputFollowsTheCommand : Prop :=
  ∀ (h w : Channel) (line : ParkLine) (mA : Nat), w = h.write line mA →
    (h.output = .driven ↔ 0 < h.command ∧ line = .released ∧ h.latch = .none) →
    w.command = mA ∧ (w.output = .driven ↔ 0 < mA ∧ line = .released ∧ h.latch = .none) ∧
    w.mean = h.mean ∧ w.latch = h.latch ∧
    (mA = h.command → w = h) ∧
    (h.output = .driven → w.output = .driven → mA ≠ h.command →
      w = { h with command := mA, openLoadRun := if mA < 100 then 0 else h.openLoadRun }) ∧
    (h.output = .off → w.output = .driven →
      w.switchClosed = true ∧ w.duty = 1000 ∧ w.starting = true ∧ w.wholePeriod = false) ∧
    (h.output = .driven → w.output = .off →
      w.switchClosed = false ∧ w.duty = 0 ∧ w.limited = false ∧ w.openLoadRun = 0)

/-- OVERCURRENT (R141) trips above 2,500 mA, on a closed switch with no fault latched: the fault is latched,
the output goes OFF with the effects of R140, and a driven cam enters FAULT with cause OVERCURRENT (R109) in
the same step (log 11). Otherwise nothing changes (log 2). -/
def Obligations.OvercurrentTrips : Prop :=
  ∀ (c : Cam) (mA : Nat) (s : State) (h : Channel), h = (s.cam c).channel →
    (mA ≤ 2500 ∨ h.switchClosed = false ∨ h.latch ≠ .none → exec (.overcurrent c mA) s = .next s) ∧
    (2500 < mA → h.switchClosed = true → h.latch = .none → h.output = .driven →
      (s.cam c).phaser.state ∈ [PhaserState.parked, .releasing, .tracking, .forced] →
      exec (.overcurrent c mA) s =
        .next (({ s with cams := s.cams.set c { s.cam c with channel :=
          { command := h.command, output := .off, duty := 0, switchClosed := false, mean := h.mean
            limited := false, latch := .overcurrent, openLoadRun := 0, wholePeriod := false
            starting := false } } }).faulted c .overcurrent))

/-- PWM_PERIOD_END (R137) takes every channel's mean, held at 3,000 mA (R138); a channel DRIVEN throughout
the period has CURRENT_LIMITED judged (R139) and its open-load run counted (R142), and one that brings the
run to 20 × PWM_HZ / 1,000 rounded up is latched and puts its cam in FAULT (R143). A channel still DRIVEN
takes a duty with the properties R138 gives, whatever the free value, and begins its period (log 9); a duty
of 0 leaves the switch open (log 27). A period that is not over does not end (log 2). Nothing else of a cam changes but by the entry to FAULT, which
clears its result and sets its entries to PENDING (R87, R109; in the same step, log 11). -/
def Obligations.PeriodEndRegulates : Prop :=
  ∀ (means : PerCam Nat) (t n : Nat) (s : State) (b : Timebase),
    Sound s → s.now ≤ t → s.timebase = some b →
    20 * s.items.global.pwmHz ≤ 1000 * n → 1000 * n < 20 * s.items.global.pwmHz + 1000 →
    ((t - b.start) * s.items.global.pwmHz < (b.periods + 1) * 10000000 →
      exec (.pwmPeriodEnd means t) s = .next { s with now := t }) ∧
    ((b.periods + 1) * 10000000 ≤ (t - b.start) * s.items.global.pwmHz →
      ∃ u, exec (.pwmPeriodEnd means t) s = .next u ∧
        u.timebase = some ⟨b.start, b.periods + 1⟩ ∧
        ∀ (c : Cam) (m run : Nat) (h g : Channel), m = min (means.get c) 3000 →
          h = (s.cam c).channel → g = (u.cam c).channel →
          run = (if h.wholePeriod = true then
              if 100 ≤ h.command ∧ 4 * m < h.command then h.openLoadRun + 1 else 0
            else h.openLoadRun) →
          g.mean = .measured m ∧
          (h.output = .off →
            g = { h with mean := .measured m } ∧ u.cam c = { s.cam c with channel := g }) ∧
          (h.output = .driven → run = n →
            u.cam c = (({ s with cams := s.cams.set c { s.cam c with channel := g } }).faulted c
              .openLoad).cam c ∧
            u.PendingFor c ∧ u.noticeSet (.phaserFault c) = true ∧
            u.counters.get (.ofCam c .faults) =
              counterNext s.items.global.counterWrap (s.counters.get (.ofCam c .faults)) ∧
            g = { command := 0, output := .off, duty := 0, switchClosed := false, mean := .measured m
                  limited := false, latch := .openLoad, openLoadRun := 0, wholePeriod := false
                  starting := false }) ∧
          (h.output = .driven → run ≠ n →
            u.cam c = { s.cam c with channel := g } ∧ g.output = .driven ∧ g.command = h.command ∧
            g.latch = .none ∧ g.openLoadRun = run ∧
            (g.limited = true ↔
              if h.wholePeriod = true then h.duty = 1000 ∧ 100 * m < 95 * h.command
              else h.limited = true) ∧
            (g.starting = true ↔ h.starting = true ∧ m ≤ h.command) ∧
            (g.starting = true → g.duty = 1000) ∧ g.duty ≤ 1000 ∧
            (m < h.command → h.duty < g.duty ∨ g.duty = 1000) ∧
            (h.command < m → g.duty < h.duty ∨ g.duty = 0) ∧
            (g.switchClosed = true ↔ 0 < g.duty) ∧ g.wholePeriod = true))

/-- A DRIVEN channel opens its switch once the present period's duty has elapsed, and not before; a duty of
100 % keeps it closed (R137). Nothing else changes (log 2). -/
def Obligations.DutyElapsedOpensTheSwitch : Prop :=
  ∀ (c : Cam) (t : Nat) (s : State) (h : Channel), s.now ≤ t → h = (s.cam c).channel →
    (∀ b, s.timebase = some b → h.output = .driven → h.switchClosed = true → h.duty < 1000 →
      (b.periods * 1000 + h.duty) * 10000000 ≤ (t - b.start) * s.items.global.pwmHz * 1000 →
      exec (.dutyElapsed c t) s =
        .next { s with
          now := t, cams := s.cams.set c { s.cam c with channel := { h with switchClosed := false } } }) ∧
    ((h.output = .off ∨ h.switchClosed = false ∨ 1000 ≤ h.duty ∨ s.timebase = none ∨
        ∃ b, s.timebase = some b ∧
          (t - b.start) * s.items.global.pwmHz * 1000 < (b.periods * 1000 + h.duty) * 10000000) →
      exec (.dutyElapsed c t) s = .next { s with now := t })

/-- A fall of PARKN asserts a RELEASED park line at once (R145): PARK_LINE is set, every output is OFF, and the
sequencers are told. One that takes it within the step puts a PARKED, RELEASING or TRACKING cam in FORCED
with its command at 0 (R106); one that lags keeps its cam as it is, the command with it (R132). Which of those
told lag is a free value, and the statement holds for each. Those that wait have further occasions, at a
PARK_LINE_ASSERT with the pin low, a PARKN_RISE with it high and a PARK_LINE_RELEASE with the line RELEASED: one
that then takes it makes its cam FORCED, or PARKED once the line is RELEASED (R107; log 29). A rise starts the
qualification, which a fall ends; 1 ms with the pin high releases the line: PARK_LINE is set, FORCED cams become
PARKED, and a channel that still holds a command is DRIVEN (R146, R107). Held in reset the part takes the pin's
level alone, and with no sequencer waiting those occasions change nothing (log 2). -/
def Obligations.ParkLineForcesAndReleases : Prop :=
  ∀ (s : State) (t : Nat), Sound s → s.now ≤ t →
    (s.rstn = .high → s.parkn = .high → s.parkLine = .released →
      ∃ u, exec .parkLineAssert s = .next u ∧
        u = { s with parkn := .low, parkLine := .asserted, qualification := none
                     told := u.lagging, lagging := u.lagging, fresh := s.fresh + 1
                     cams := u.cams, notices := u.notices } ∧
        u.noticeSet .parkLine = true ∧
        ∀ (c : Cam) (k : CamState), k = u.cam c →
          k.lane = (s.cam c).lane ∧ k.arbiter = (s.cam c).arbiter ∧
          k.channel.output = .off ∧ k.channel.switchClosed = false ∧ k.channel.duty = 0 ∧
          k.channel.mean = (s.cam c).channel.mean ∧ k.channel.latch = (s.cam c).channel.latch ∧
          (u.told.get c = true → k.phaser = (s.cam c).phaser ∧ k.loop = (s.cam c).loop ∧
            k.channel.command = (s.cam c).channel.command) ∧
          (u.told.get c = false →
            k.channel.command = 0 ∧
            ((s.cam c).phaser.state ∈ [PhaserState.parked, .releasing, .tracking] →
              k.loop = ⟨0, 0⟩ ∧
              k.phaser = { (s.cam c).phaser.aborted with
                state := .forced, releaseCount := 0, parkRun := 0, errorRun := 0, eventSeen := false
                allOver := true } ∧
              ((s.cam c).phaser.learning = true → u.noticeSet (.learnEnded c) = true)) ∧
            ((s.cam c).phaser.state ∉ [PhaserState.parked, .releasing, .tracking] →
              k.phaser = (s.cam c).phaser ∧ k.loop = (s.cam c).loop))) ∧
    (s.rstn = .high → s.parkn = .high → s.parkLine = .asserted →
      exec .parkLineAssert s = .next { s with parkn := .low, qualification := none }) ∧
    (s.rstn = .low → s.parkn = .high → exec .parkLineAssert s = .next { s with parkn := .low }) ∧
    (∃ u : State,
      (s.parkn = .low → exec .parkLineAssert s = .next u) ∧
      (s.parkn = .high → exec (.parknRise t) s = .next { u with now := t }) ∧
      (s.parkLine = .released → exec (.parkLineRelease t) s = .next { u with now := t }) ∧
      u = { s with told := u.told, lagging := u.lagging, fresh := u.fresh, cams := u.cams, notices := u.notices } ∧
      ((∀ c : Cam, s.told.get c = false) → u = s) ∧
      ∀ (c : Cam) (k : CamState), k = u.cam c →
        (s.told.get c = false → u.told.get c = false ∧ k = s.cam c) ∧
        (s.told.get c = true →
          (u.told.get c = u.lagging.get c) ∧
          (u.told.get c = true ∨ (s.cam c).phaser.state ∉ [PhaserState.parked, .releasing, .tracking] →
            k = s.cam c) ∧
          (u.told.get c = false → (s.cam c).phaser.state ∈ [PhaserState.parked, .releasing, .tracking] →
            k = { s.cam c with
              loop := ⟨0, 0⟩
              phaser := { (s.cam c).phaser.aborted with
                state := if s.parkLine = .asserted then .forced else .parked
                releaseCount := 0, parkRun := 0, errorRun := 0, eventSeen := false, allOver := true }
              channel := (s.cam c).channel.write s.parkLine 0 } ∧
            ((s.cam c).phaser.learning = true → u.noticeSet (.learnEnded c) = true)))) ∧
    (s.rstn = .high → s.parkn = .low →
      exec (.parknRise t) s = .next { s with now := t, parkn := .high, qualification := some t }) ∧
    (s.rstn = .low → exec (.parknRise t) s = .next { s with now := t, parkn := .high }) ∧
    (∀ t0, s.parkn = .high → s.qualification = some t0 →
      (t < t0 + 10000 → exec (.parkLineRelease t) s = .next { s with now := t }) ∧
      (t0 + 10000 ≤ t →
        ∃ cams : PerCam CamState,
          exec (.parkLineRelease t) s = .next { s with
            now := t, parkLine := .released, qualification := none
            notices := s.notices ||| 0x0080#16, cams := cams } ∧
          ∀ c : Cam, cams.get c = { s.cam c with
            phaser := { (s.cam c).phaser with state :=
              if (s.cam c).phaser.state = .forced then .parked else (s.cam c).phaser.state }
            channel := if 0 < (s.cam c).channel.command ∧ (s.cam c).channel.latch = .none then
                { (s.cam c).channel with
                  output := .driven, switchClosed := true, duty := 1000, wholePeriod := false, starting := true }
              else (s.cam c).channel }))

/-! ## Configuration and modes (08) -/

/-- In CONFIG a CONFIG_WRITE of a lawful value to a well-formed reference sets that item and no other, and a
CONFIG_READ, in both modes, answers the item's value and changes nothing; an unlawful value or a reference
that is not well formed is refused with BAD_FIELD, and another length with BAD_LENGTH (R150 to R152). -/
def Obligations.ConfigWriteReadsBack : Prop :=
  ∀ (s : State) (item cam hi lo : Byte),
    (s.mode = .config →
      (∀ p, s.delivers .configWrite p → p.length ≠ 4 →
        exec .configWrite s = .next (s.answered .configWrite .badLength [])) ∧
      (s.delivers .configWrite [item, cam, hi, lo] →
        ((∀ i : ItemRef, ¬ i.Names item cam) →
          exec .configWrite s = .next (s.answered .configWrite .badField [])) ∧
        ∀ i : ItemRef, i.Names item cam →
          (i.lawful (256 * hi.toNat + lo.toNat) = false →
            exec .configWrite s = .next (s.answered .configWrite .badField [])) ∧
          (i.lawful (256 * hi.toNat + lo.toNat) = true →
            ∃ x : Items,
              exec .configWrite s = .next (({ s with items := x }).answered .configWrite .ok []) ∧
              x.read i = 256 * hi.toNat + lo.toNat ∧ ∀ j : ItemRef, j ≠ i → x.read j = s.items.read j))) ∧
    (∀ p, s.delivers .configRead p → p.length ≠ 2 →
      exec .configRead s = .next (s.answered .configRead .badLength [])) ∧
    (s.delivers .configRead [item, cam] →
      ((∀ i : ItemRef, ¬ i.Names item cam) →
        exec .configRead s = .next (s.answered .configRead .badField [])) ∧
      ∀ i : ItemRef, i.Names item cam →
        exec .configRead s =
          .next (s.answered .configRead .ok [u8 (s.items.read i / 256), u8 (s.items.read i)]))

/-- COMMIT in CONFIG: a set that passes every check of R154 puts every block into RUN (R156), with the
enabled cams at PARKED or FORCED, their windows built (R24) and the others DISABLED (R94), and the link
timer and the PWM timebase started; that it leaves a sequencer waiting for an assertion of the park line is the
model's choice (log 29). The first check to fail is answered by CONFIG_INVALID with its code and
its cam, and a payload by BAD_LENGTH, and nothing changes. -/
def Obligations.CommitChecksAndEntersRun : Prop :=
  ∀ (s : State) (t : Nat), s.now ≤ t → s.mode = .config → s.items.Lawful →
    (∀ p, s.delivers .commit p → p ≠ [] →
      exec (.commit t) s = .next (({ s with now := t }).answered .commit .badLength [])) ∧
    (s.delivers .commit [] →
      (∀ (n : Nat) (cam : Option Cam), 1 ≤ n → n ≤ 13 → (∀ m, 1 ≤ m → m < n → s.items.Check m) →
        ¬ s.items.Check n → s.items.Reports n cam →
        exec (.commit t) s =
          .next (({ s with now := t }).answered .commit .configInvalid
            [u8 n, match cam with | some c => u8 c.index | none => 0xFF#8])) ∧
      ((∀ n, 1 ≤ n → n ≤ 13 → s.items.Check n) →
        ∃ cams : PerCam CamState,
          exec (.commit t) s =
            .next (({ s with
              now := t, mode := .run, tracker := ⟨.stopped, 0⟩, timebase := some ⟨t, 0⟩
              link := { s.link with timer := some t }, cams := cams }).answered .commit .ok []) ∧
          ∀ c : Cam, cams.get c =
            { s.cam c with
              lane := { (s.cam c).lane with
                windows := if (s.cfg c).enable = true then buildWindows (s.cfg c) else []
                missRun := 0, valid := false }
              arbiter := ⟨0, .none, 0, 0, 2047, none, 0, true⟩
              phaser := { (s.cam c).phaser with
                state := if (s.cfg c).enable = true then
                    if s.parkLine = .asserted then .forced else .parked
                  else .disabled
                causes := ⟨false, false, false, false, false⟩
                releaseCount := 0, parkRun := 0, errorRun := 0, eventSeen := false, allOver := true
                learning := false } }))

/-- REOPEN in RUN with the tracker STOPPED returns the part to CONFIG (R158): the table is purged, every cam
DISABLED with L at 0 and its channel re-armed, the tracker held, the link timer and the timebase stopped; in
any other sync state it is refused with NOT_READY, and with a payload with BAD_LENGTH (R157). That it leaves a
sequencer waiting for an assertion of the park line is the model's choice (log 29). -/
def Obligations.ReopenReturnsToConfig : Prop :=
  ∀ (s : State), Sound s → s.mode = .run →
    (∀ p, s.delivers .reopen p → p ≠ [] → exec .reopen s = .next (s.answered .reopen .badLength [])) ∧
    (s.delivers .reopen [] →
      (s.tracker.sync ≠ .stopped → exec .reopen s = .next (s.answered .reopen .notReady [])) ∧
      (s.tracker.sync = .stopped →
        ∃ cams : PerCam CamState,
          exec .reopen s =
            .next (({ s with
              mode := .config, tracker := ⟨.stopped, 0⟩, timebase := none
              table := s.table.map (fun (x : Slot) =>
                if x.record.isSome = true then ⟨(x.generation + 1) % 8, none⟩ else x)
              link := { s.link with timer := none }, cams := cams }).answered .reopen .ok []) ∧
          ∀ c : Cam, cams.get c =
            { lane := { (s.cam c).lane with windows := [], missRun := 0, offset := 0 }
              arbiter := ⟨0, .none, 0, 0, 2047, none, 0, true⟩
              phaser := { (s.cam c).phaser with
                state := .disabled, causes := ⟨false, false, false, false, false⟩, releaseCount := 0 }
              loop := ⟨0, 0⟩
              channel := ⟨0, .off, 0, false, (s.cam c).channel.mean, false, .none, 0, false, false⟩ }))

/-! ## The control link (09) -/

/-- A fall of CSN opens a transaction, ignored while the part is not ready and LATE while processing is busy
(R161, R168). At the rise, a LATE one counts and is disregarded; any other judges the response clocked out
(R166) and the frame (R163): a frame with a known CMD and a good CRC is delivered to its owner, an unknown
CMD is answered UNKNOWN, and both restart the link timer in RUN (R173); a LEN above 40, a short frame and a
wrong CRC are answered BAD_LENGTH, FRAME_ERROR and CRC_ERROR, and the last two are counted. CSN_RISE carries the
levels sampled on SDI (log 15): eight make a byte, most significant bit first, and an incomplete byte is
disregarded (R161). SDO is driven with the pending or the LATE response while the ready flag is set and CSN is
low (R161, R168), but not in what a reset has left of a transaction (log 34). The CRC is the register of R164 over the covered bits. The record of the bytes clocked out,
0x00 beyond a LATE response (log 22), and the 43 bytes the buffer keeps (log 26) are the model's. An edge of
CSN at that level already changes nothing (log 2). -/
def Obligations.FramesAreJudged : Prop :=
  ∀ (s : State) (sampled : List Bool) (bytes : List Byte) (t : Nat) (l taken : Link), s.now ≤ t →
    bytes = assemble sampled →
    l = { s.link with
      transaction := .idle, received := bytes.take 43, clockedOut := s.link.response.clocked bytes.length
      delivery := if s.link.response.payload.length + 5 ≤ bytes.length then .delivered else .lost
      busy := true, riseAt := some t } →
    taken = { l with timer := if s.mode = .run then some t else s.link.timer } →
    (∀ (p : List Byte) (rest : List Bool), rest.length < 8 → assemble (p.flatMap bitsOf ++ rest) = p) ∧
    (∀ p : List Byte, crc8 p =
      (p.flatMap bitsOf).foldl
        (fun (r : Byte) (bit : Bool) => if r.getLsbD 7 = bit then r <<< 1 else (r <<< 1) ^^^ 0x2F#8) 0xFF#8) ∧
    (∀ r : Response, s.link.sdo = some r ↔
      s.link.ready = true ∧ (s.link.transaction = .late r ∨
        (s.link.transaction = .opened ∧ r = s.link.response))) ∧
    (s.link.transaction = .idle →
      exec .csnFall s = .next { s with link := { s.link with
        received := [], clockedOut := []
        transaction := if s.link.ready = false then .ignored
          else if s.link.busy = true then .late ⟨0xFF#8, .late, some s.summary, []⟩ else .opened } } ∧
      exec (.csnRise sampled t) s = .next { s with now := t }) ∧
    (s.link.transaction ≠ .idle → exec .csnFall s = .next s) ∧
    (s.link.transaction = .ignored →
      exec (.csnRise sampled t) s = .next { s with now := t, link := { s.link with transaction := .idle } }) ∧
    (∀ r, s.link.transaction = .late r →
      exec (.csnRise sampled t) s = .next { s with
        now := t
        link := { s.link with
          transaction := .idle, received := bytes.take 43, clockedOut := r.clocked bytes.length }
        counters := { s.counters with
          lateFrames := counterNext s.items.global.counterWrap s.counters.lateFrames } }) ∧
    (s.link.transaction = .opened →
      (∀ (r : Request) (p extra : List Byte), p.length ≤ 40 → bytes = requestFrame r.code p ++ extra →
        exec (.csnRise sampled t) s =
          .next { s with now := t, link := { taken with answer := none, delivered := some ⟨r, p⟩ } }) ∧
      (∀ (cmd : Byte) (p extra : List Byte), p.length ≤ 40 → bytes = requestFrame cmd p ++ extra →
        (∀ r : Request, r.code ≠ cmd) →
        exec (.csnRise sampled t) s =
          .next { s with now := t, link := { taken with
            answer := some (.response cmd .unknown []), delivered := none } }) ∧
      (∀ (cmd len : Byte) (rest : List Byte), bytes = cmd :: len :: rest → 40 < len.toNat →
        exec (.csnRise sampled t) s =
          .next { s with now := t, link := { l with
            answer := some (.response cmd .badLength []), delivered := none } }) ∧
      ((bytes.length < 2 ∨ ∃ cmd len rest, bytes = cmd :: len :: rest ∧ len.toNat ≤ 40 ∧
          rest.length < len.toNat + 1) →
        exec (.csnRise sampled t) s =
          .next { s with
            now := t
            link := { l with answer := some (.response 0xFF#8 .frameError []), delivered := none }
            counters := { s.counters with
              frameErrors := counterNext s.items.global.counterWrap s.counters.frameErrors } }) ∧
      (∀ (cmd len crc : Byte) (p extra : List Byte), len.toNat ≤ 40 → p.length = len.toNat →
        bytes = cmd :: len :: (p ++ crc :: extra) → crc ≠ crc8 (cmd :: len :: p) →
        exec (.csnRise sampled t) s =
          .next { s with
            now := t
            link := { l with answer := some (.response 0xFF#8 .crcError []), delivered := none }
            counters := { s.counters with
              crcErrors := counterNext s.items.global.counterWrap s.counters.crcErrors } }))

/-- PROCESSING_COMPLETE, at most 20 µs after the rise, makes the answer in hand the pending response with
the SUMMARY of that moment (R166, R167) and clears the busy flag, and after a taken SOFT_RESET resets the
part (R172; log 29 for sequencers told of an assertion); while not busy, nothing changes (log 2, log 4). SOFT_RESET is taken with an empty payload alone. A
response is laid out as R165 has it, its CRC over every byte before it (R164), and is followed by 0x00. -/
def Obligations.ProcessingFormsTheResponse : Prop :=
  ∀ (s : State) (t : Nat), s.now ≤ t →
    (∀ (r : Response) (summary : Byte) (body : List Byte), r.summary = some summary →
      body = [r.echo, r.result.code, summary, u8 r.payload.length] ++ r.payload →
      r.bytes = body ++ [crc8 body] ∧
      ∀ n, (n ≤ r.bytes.length → r.clocked n = r.bytes.take n) ∧
        r.clocked (r.bytes.length + n) = r.bytes ++ List.replicate n 0#8) ∧
    [Result.ok, .noEffect, .unknown, .badLength, .badField, .wrongMode, .notReady, .busy, .stale, .tableFull,
      .configInvalid, .crcError, .frameError, .late, .resetMark].map Result.code =
      [0x00#8, 0x01#8, 0x02#8, 0x03#8, 0x04#8, 0x05#8, 0x06#8, 0x07#8, 0x08#8, 0x09#8, 0x0A#8, 0x0B#8, 0x0C#8,
        0x0D#8, 0x0E#8] ∧
    s.summary.toNat =
      (if s.mode = .run then 1 else 0)
      + 2 * (match s.tracker.sync with
        | .stopped => 0 | .seeking _ => 1 | .crankSync _ => 2 | .engineSync _ _ => 3)
      + (if s.parkLine = .asserted then 8 else 0) + (if s.notices &&& s.mask = 0#16 then 0 else 16) ∧
    (s.link.busy = false → exec (.processingComplete t) s = .next { s with now := t }) ∧
    (∀ t0, s.link.busy = true → s.link.riseAt = some t0 → t ≤ t0 + 200 →
      (∀ echo result payload, s.link.answer = some (.response echo result payload) →
        exec (.processingComplete t) s = .next { s with
          now := t
          link := { s.link with
            response := ⟨echo, result, some s.summary, payload⟩, delivery := .waiting, busy := false
            riseAt := none, answer := none } }) ∧
      (s.link.answer = some .softReset →
        ∃ u, exec (.processingComplete t) s = .next u ∧ u.AfterReset .soft (some t) ∧
          u.parkn = s.parkn ∧ u.rstn = s.rstn ∧ u.pending = s.pending)) ∧
    (s.delivers .softReset [] →
      exec .softReset s =
        .next { s with link := { s.link with delivered := none, answer := some .softReset } }) ∧
    (∀ p, s.delivers .softReset p → p ≠ [] →
      exec .softReset s = .next (s.answered .softReset .badLength []))

/-- Power-on and RSTN reset every block alike, with the cause POWER_ON or PIN; the part stays in reset while
RSTN is low, the rise ends it, and 2 ms after its end the ready flag is set and the RESET_MARK's SUMMARY
formed (R171, R148, R167). The levels a POWER_ON carries, that the pins keep their levels over a reset (log 6), and
that a reset ends the wait of a sequencer told of an assertion (log 29) are the model's; an early expiry or a pin at its level already changes nothing (log 2). -/
def Obligations.ResetsRestoreEveryBlock : Prop :=
  ∀ (s : State) (t : Nat), s.now ≤ t →
    (∀ rstn parkn : Level,
      ∃ u, exec (.powerOn rstn parkn t) s = .next u ∧ u.rstn = rstn ∧ u.parkn = parkn ∧
        u.pending = s.pending ∧ u.AfterReset .powerOn (if rstn = .high then some t else none)) ∧
    (s.rstn = .high →
      ∃ u, exec .rstn s = .next u ∧ u.rstn = .low ∧ u.parkn = s.parkn ∧ u.pending = s.pending ∧
        u.AfterReset .pin none ∧ u.attnLow = false) ∧
    (s.rstn = .low → exec .rstn s = .next s ∧
      exec (.rstnRise t) s = .next { s with
        now := t, rstn := .high, qualification := none
        parkLine := match s.parkn with | .low => .asserted | .high => .released
        link := { s.link with readyFrom := some t } }) ∧
    (s.rstn = .high → exec (.rstnRise t) s = .next { s with now := t }) ∧
    (∀ t0, s.link.readyFrom = some t0 →
      (t < t0 + 20000 → exec (.readyDelayExpiry t) s = .next { s with now := t }) ∧
      (t0 + 20000 ≤ t →
        exec (.readyDelayExpiry t) s = .next { s with
          now := t
          link := { s.link with
            ready := true, readyFrom := none
            response := { s.link.response with summary := some s.summary } } }))

/-! ## Status, notices and counters (10) -/

/-- The status requests answer the state as it stands, in the layouts of R182: ENGINE_STATUS (R174),
CAM_STATUS (R175), NOTICE_READ, which clears exactly the flags it reports (R177), NOTICE_MASK, which takes
the mask (R178), COUNTERS_READ, which clears its group when asked (R180), and NOP (R169). A cam index above 3
is refused with BAD_FIELD (R175). Before a PWM period has been completed after a reset CAM_STATUS reports some
mean current of 0 to 3,000 mA (R148; log 10). The codes and bits in the payloads are those of R182. Multi-byte fields are sent most significant byte first, signed
ones in two's complement (R170). -/
def Obligations.StatusRequestsReport : Prop :=
  ∀ (s : State),
    (∀ n : Nat, be16 n = [u8 (n / 256), u8 n] ∧
      be32 n = [u8 (n / 16777216), u8 (n / 65536), u8 (n / 256), u8 n]) ∧
    (∀ i : Int, -32768 ≤ i → i ≤ 32767 → be16s i = be16 (BitVec.ofInt 16 i).toNat) ∧
    ([PhaserState.disabled, .parked, .releasing, .tracking, .forced, .fault].map PhaserState.code =
      [0, 1, 2, 3, 4, 5]) ∧
    (∀ x : CauseSet, x.byte.toNat < 32 ∧ x.byte.getLsbD 0 = x.signal ∧ x.byte.getLsbD 1 = x.overcurrent ∧
      x.byte.getLsbD 2 = x.openLoad ∧ x.byte.getLsbD 3 = x.stuck ∧ x.byte.getLsbD 4 = x.following) ∧
    (∀ h : Nat, [Winner.none, .default, .blend, .handle h].map Winner.kind = [0, 1, 2, 3] ∧
      [Winner.none, .default, .blend, .handle h].map Winner.handleByte = [0, 0, 0, h]) ∧
    ([LearnResult.none, .done, .failed, .aborted].map LearnResult.code = [0, 1, 2, 3]) ∧
    (s.delivers .nop [] → exec .nop s = .next (s.answered .nop .ok [])) ∧
    (s.delivers .engineStatus [] →
      exec .engineStatus s = .next (s.answered .engineStatus .ok
        ([(if s.mode = .run then 1#8 else 0#8),
          (match s.tracker.sync with
            | .stopped => 0#8 | .seeking _ => 1#8 | .crankSync _ => 2#8 | .engineSync _ _ => 3#8)]
          ++ be16 s.tracker.speed ++ be32 s.counters.cycles
          ++ [(if s.parkLine = .asserted then 1#8 else 0#8),
            u8 ((s.cam .fi).arbiter.suppressed.toNat + 2 * (s.cam .fe).arbiter.suppressed.toNat
              + 4 * (s.cam .ri).arbiter.suppressed.toNat + 8 * (s.cam .re).arbiter.suppressed.toNat)]))) ∧
    (∀ b : Byte, s.delivers .camStatus [b] → 3 < b.toNat →
      exec .camStatus s = .next (s.answered .camStatus .badField [])) ∧
    (∀ (b : Byte) (c : Cam) (k : CamState), s.delivers .camStatus [b] → b.toNat = c.index → k = s.cam c →
      ∃ mA fresh : Nat,
      (∀ m, k.channel.mean = .measured m → mA = m ∧ fresh = s.fresh) ∧
      (k.channel.mean = .asSensed → mA ≤ 3000) ∧
      exec .camStatus s = .next (({ s with fresh := fresh }).answered .camStatus .ok
        ([u8 k.phaser.state.code, k.phaser.causes.byte,
          u8 (k.lane.valid.toNat + 2 * k.channel.limited.toNat + 4 * k.phaser.learning.toNat),
          u8 k.lane.dWindow]
          ++ be16s k.lane.d ++ be16s k.lane.offset ++ be16 k.arbiter.target ++ be16 k.loop.ramped
          ++ [u8 (match k.arbiter.slewCap with
              | none => (s.cfg c).slew | some cap => min (s.cfg c).slew cap),
            u8 k.arbiter.winner.kind, u8 k.arbiter.winner.handleByte, u8 k.arbiter.contributors]
          ++ be16 k.arbiter.appliedFloor ++ be16 k.arbiter.appliedCeiling ++ be16 k.arbiter.speedUsed
          ++ be16 k.channel.command ++ be16 mA ++ be16s (Int.tdiv k.loop.integrator 64)
          ++ [u8 k.phaser.samples] ++ be16s k.phaser.sum ++ [u8 k.phaser.lastLearn.code]))) ∧
    (s.delivers .noticeRead [] →
      exec .noticeRead s = .next (({ s with notices := 0#16 }).answered .noticeRead .ok
        [u8 (s.notices.toNat / 256), u8 s.notices.toNat])) ∧
    (∀ hi lo : Byte, s.delivers .noticeMask [hi, lo] →
      exec .noticeMask s = .next (({ s with mask := hi ++ lo }).answered .noticeMask .ok [hi, lo])) ∧
    (∀ group flag : Byte, s.delivers .countersRead [group, flag] →
      (5 < group.toNat ∨ 1 < flag.toNat →
        exec .countersRead s = .next (s.answered .countersRead .badField [])) ∧
      ∀ g : Group, (g = .engine ∧ group = 0#8) ∨ (g = .link ∧ group = 5#8) ∨
          (∃ c, g = .ofCam c ∧ group.toNat = c.index + 1) →
        ∀ payload : List Byte, payload = (match g with
          | .engine =>
            be32 s.counters.cycles ++ be16 s.counters.noiseRejects ++ be16 s.counters.gapErrors
              ++ be16 s.counters.phaseLosses ++ be16 s.counters.stalls
          | .ofCam c =>
            be16 (s.counters.cam.get c).edges ++ be16 (s.counters.cam.get c).stray
              ++ be16 (s.counters.cam.get c).missed ++ be16 (s.counters.cam.get c).halfMismatch
              ++ be16 (s.counters.cam.get c).faults
          | .link =>
            be16 s.counters.crcErrors ++ be16 s.counters.frameErrors ++ be16 s.counters.lateFrames
              ++ be16 s.counters.linkLosses ++ be16 s.counters.lapsedDemands
              ++ be16 s.counters.fullRefusals) →
        (flag = 0#8 → exec .countersRead s = .next (s.answered .countersRead .ok payload)) ∧
        (flag = 1#8 →
          exec .countersRead s =
            .next (({ s with counters :=
              match g with
              | .engine => { s.counters with
                  cycles := 0, noiseRejects := 0, gapErrors := 0, phaseLosses := 0, stalls := 0 }
              | .ofCam c => { s.counters with cam := s.counters.cam.set c ⟨0, 0, 0, 0, 0⟩ }
              | .link => { s.counters with
                  crcErrors := 0, frameErrors := 0, lateFrames := 0, linkLosses := 0, lapsedDemands := 0
                  fullRefusals := 0 } }).answered .countersRead .ok payload))) ∧
    (∀ (r : Request) (p : List Byte), s.delivers r p →
      ((r = .nop ∨ r = .engineStatus ∨ r = .noticeRead) ∧ p ≠ []) ∨ (r = .camStatus ∧ p.length ≠ 1) ∨
        ((r = .noticeMask ∨ r = .countersRead) ∧ p.length ≠ 2) →
      exec (r.command s.now) s = .next (s.answered r .badLength []))

/-- A notice flag once set stays set through every command but a NOTICE_READ, which clears exactly what it
reports, and a reset (R176, R177, R181). ATTN is driven low exactly while a flag is set whose mask bit is
enabled and the part is not held in reset (R178). -/
def Obligations.NoticesLatch : Prop :=
  (∀ s : State, s.attnLow = true ↔
    s.rstn = .high ∧ ∃ n : Notice, s.noticeSet n = true ∧ s.mask.getLsbD n.bit = true) ∧
  (∀ (n m : Notice), n.bit < 16 ∧ (n.bit = m.bit → n = m)) ∧
  ∀ (i : Instr) (s u : State) (n : Notice), exec i s = .next u →
    s.noticeSet n = true → u.noticeSet n = false →
    MayReset i ∨
      (i = .noticeRead ∧ s.delivers .noticeRead [] ∧
        u.link.answer = some (.response 0x04#8 .ok [u8 (s.notices.toNat / 256), u8 s.notices.toNat]))

/-- What these fields change by, the commands their chapters name and no other: the items by CONFIG_WRITE
(R153), the mode by COMMIT and REOPEN (R149), the mask by NOTICE_MASK (R178), the tracker, the timebase, the
park line, the pins and a learned offset by theirs, all of them by a reset; which sequencers have yet to take
an assertion, and which of them lag, by the park line's three commands (log 29); no command of one cam moves
another cam's sequencer, loop or channel; and no command touches the queue or turns time back (log 1). -/
def Obligations.OnlyTheirCommandsChange : Prop :=
  ∀ (i : Instr) (s u : State), exec i s = .next u →
    u.pending = s.pending ∧ s.now ≤ u.now ∧
    (u.lagging ≠ s.lagging → i = .parkLineAssert ∨ (∃ t, i = .parknRise t) ∨ ∃ t, i = .parkLineRelease t) ∧
    (u.told ≠ s.told →
      i = .parkLineAssert ∨ (∃ t, i = .parknRise t) ∨ (∃ t, i = .parkLineRelease t) ∨ MayReset i) ∧
    (u.items ≠ s.items → i = .configWrite ∨ MayReset i) ∧
    (u.mode ≠ s.mode → (∃ t, i = .commit t) ∨ i = .reopen ∨ MayReset i) ∧
    (u.mask ≠ s.mask → i = .noticeMask ∨ MayReset i) ∧
    (u.tracker ≠ s.tracker → (∃ e t, i = .crkEdge e t) ∨ (∃ t, i = .stall t) ∨ (∃ c e t, i = .camEdge c e t) ∨
      (∃ t, i = .commit t) ∨ i = .reopen ∨ MayReset i) ∧
    (u.timebase ≠ s.timebase → (∃ m t, i = .pwmPeriodEnd m t) ∨ (∃ t, i = .commit t) ∨ i = .reopen ∨
      MayReset i) ∧
    (u.parkLine ≠ s.parkLine → i = .parkLineAssert ∨ (∃ t, i = .parkLineRelease t) ∨ (∃ t, i = .rstnRise t) ∨
      MayReset i) ∧
    (u.rstn ≠ s.rstn → (∃ a b t, i = .powerOn a b t) ∨ i = .rstn ∨ ∃ t, i = .rstnRise t) ∧
    (u.parkn ≠ s.parkn → (∃ a b t, i = .powerOn a b t) ∨ i = .parkLineAssert ∨ ∃ t, i = .parknRise t) ∧
    (∀ c : Cam, (u.cam c).lane.offset ≠ (s.cam c).lane.offset →
      (∃ e t, i = .camEdge c e t) ∨ i = .reopen ∨ MayReset i) ∧
    ∀ c b : Cam, b ≠ c →
      ((∃ e t, i = .camEdge c e t) ∨ (∃ j t, i = .windowClose c j t) ∨ (∃ mA, i = .overcurrent c mA) ∨
        ∃ t, i = .dutyElapsed c t) →
      (u.cam b).phaser = (s.cam b).phaser ∧ (u.cam b).loop = (s.cam b).loop ∧
      (u.cam b).channel = (s.cam b).channel ∧ (u.cam b).arbiter = (s.cam b).arbiter
end

