-- ==== Sys2Proof/Laws/State.lean ====
section
/-! SUPPORT. What each update of the state leaves and sets, one lemma per field, each true by unfolding
that update alone: no later proof needs to unfold a record update. -/

namespace Sys2Proof

/-! ## One value per cam -/

/-- The value just set for a cam. -/
@[simp] theorem PerCam.get_set_self {α : Type} (p : PerCam α) (c : Cam) (a : α) : (p.set c a).get c = a := by
  cases c <;> rfl

/-- Another cam's value. -/
theorem PerCam.get_set_ne {α : Type} (p : PerCam α) {b c : Cam} (h : b ≠ c) (a : α) :
    (p.set c a).get b = p.get b := by
  cases b <;> cases c <;> first | rfl | exact absurd rfl h

/-- A cam's value after one is set. -/
theorem PerCam.get_set {α : Type} (p : PerCam α) (b c : Cam) (a : α) :
    (p.set c a).get b = if b = c then a else p.get b := by
  cases b <;> cases c <;> rfl

/-- The later of two values set for a cam stands. -/
@[simp] theorem PerCam.set_set {α : Type} (p : PerCam α) (c : Cam) (a b : α) :
    (p.set c a).set c b = p.set c b := by
  cases c <;> rfl

/-- Setting a cam's own value changes nothing. -/
@[simp] theorem PerCam.set_get {α : Type} (p : PerCam α) (c : Cam) : p.set c (p.get c) = p := by
  cases c <;> rfl

/-- A constant has the same value for every cam. -/
@[simp] theorem PerCam.get_const {α : Type} (a : α) (c : Cam) : (PerCam.const a).get c = a := by
  cases c <;> rfl

/-- Two families are equal if they agree on every cam. -/
theorem PerCam.ext_get {α : Type} {p q : PerCam α} (h : ∀ c : Cam, p.get c = q.get c) : p = q := by
  cases p; cases q
  have h0 := h .fi; have h1 := h .fe; have h2 := h .ri; have h3 := h .re
  simp only [PerCam.get] at h0 h1 h2 h3
  subst h0 h1 h2 h3; rfl

end Sys2Proof

namespace Sys2Proof.Machine

/-! ## The cams -/

/-- The blocks just set for a cam. -/
@[simp] theorem State.setCam_cam_self (s : State) (c : Cam) (k : CamState) : (s.setCam c k).cam c = k :=
  PerCam.get_set_self s.cams c k

/-- Another cam's blocks. -/
theorem State.setCam_cam_ne (s : State) {b c : Cam} (h : b ≠ c) (k : CamState) :
    (s.setCam c k).cam b = s.cam b :=
  PerCam.get_set_ne s.cams h k

/-- A cam's blocks after one cam's are set. -/
theorem State.setCam_cam (s : State) (b c : Cam) (k : CamState) :
    (s.setCam c k).cam b = if b = c then k else s.cam b :=
  PerCam.get_set s.cams b c k

/-- The later of two settings of a cam stands. -/
@[simp] theorem State.setCam_setCam (s : State) (c : Cam) (k l : CamState) :
    (s.setCam c k).setCam c l = s.setCam c l := by
  simp [State.setCam]

/-- Setting a cam's own blocks changes nothing. -/
@[simp] theorem State.setCam_cam_same (s : State) (c : Cam) : s.setCam c (s.cam c) = s := by
  simp [State.setCam, State.cam]

/-- The cams' field after one cam's blocks are set. -/
@[simp] theorem State.setCam_cams (s : State) (c : Cam) (k : CamState) : (s.setCam c k).cams = s.cams.set c k :=
  rfl

/-- An operation made on each cam is made on the four in ascending order. -/
theorem State.eachCam_eq (s : State) (f : Cam → State → State) :
    s.eachCam f = f .re (f .ri (f .fe (f .fi s))) := rfl

/-! ## The fields that the updates set -/

/-- The counters after one increment. -/
theorem State.count_counters (s : State) (k : Counter) :
    (s.count k).counters = s.counters.put k (counterNext s.items.global.counterWrap (s.counters.get k)) := rfl

/-- The notices after one is set. -/
theorem State.notify_notices (s : State) (n : Notice) :
    (s.notify n).notices = s.notices ||| BitVec.twoPow 16 n.bit := rfl

/-- The tracker after it is replaced. -/
@[simp] theorem State.setTracker_tracker (s : State) (y : Sync) (v : Nat) :
    (s.setTracker y v).tracker = ⟨y, v⟩ := rfl

/-- The blocks of a cam whose lane is replaced. -/
@[simp] theorem State.setLane_cam_self (s : State) (c : Cam) (l : Lane) :
    (s.setLane c l).cam c = { s.cam c with lane := l } :=
  PerCam.get_set_self _ _ _

/-- The blocks of a cam whose channel is replaced. -/
@[simp] theorem State.setChannel_cam_self (s : State) (c : Cam) (h : Channel) :
    (s.setChannel c h).cam c = { s.cam c with channel := h } :=
  PerCam.get_set_self _ _ _

/-- The blocks of a cam whose cause set is replaced. -/
@[simp] theorem State.setCauses_cam_self (s : State) (c : Cam) (x : CauseSet) :
    (s.setCauses c x).cam c = { s.cam c with phaser := { (s.cam c).phaser with causes := x } } :=
  PerCam.get_set_self _ _ _

/-- The blocks of a cam whose channel takes a command. -/
@[simp] theorem State.command_cam_self (s : State) (c : Cam) (mA : Nat) :
    (s.command c mA).cam c = { s.cam c with channel := (s.cam c).channel.write s.parkLine mA } :=
  PerCam.get_set_self _ _ _

/-! ## What `setCam` leaves -/

@[simp] theorem State.setCam_mode (s : State) (c : Cam) (k : CamState) : (s.setCam c k).mode = s.mode := rfl
@[simp] theorem State.setCam_items (s : State) (c : Cam) (k : CamState) :
    (s.setCam c k).items = s.items := rfl
@[simp] theorem State.setCam_tracker (s : State) (c : Cam) (k : CamState) :
    (s.setCam c k).tracker = s.tracker := rfl
@[simp] theorem State.setCam_table (s : State) (c : Cam) (k : CamState) :
    (s.setCam c k).table = s.table := rfl
@[simp] theorem State.setCam_parkLine (s : State) (c : Cam) (k : CamState) :
    (s.setCam c k).parkLine = s.parkLine := rfl
@[simp] theorem State.setCam_qualification (s : State) (c : Cam) (k : CamState) :
    (s.setCam c k).qualification = s.qualification := rfl
@[simp] theorem State.setCam_timebase (s : State) (c : Cam) (k : CamState) :
    (s.setCam c k).timebase = s.timebase := rfl
@[simp] theorem State.setCam_lagging (s : State) (c : Cam) (k : CamState) :
    (s.setCam c k).lagging = s.lagging := rfl
@[simp] theorem State.setCam_told (s : State) (c : Cam) (k : CamState) :
    (s.setCam c k).told = s.told := rfl
@[simp] theorem State.setCam_link (s : State) (c : Cam) (k : CamState) : (s.setCam c k).link = s.link := rfl
@[simp] theorem State.setCam_notices (s : State) (c : Cam) (k : CamState) :
    (s.setCam c k).notices = s.notices := rfl
@[simp] theorem State.setCam_mask (s : State) (c : Cam) (k : CamState) : (s.setCam c k).mask = s.mask := rfl
@[simp] theorem State.setCam_counters (s : State) (c : Cam) (k : CamState) :
    (s.setCam c k).counters = s.counters := rfl
@[simp] theorem State.setCam_rstn (s : State) (c : Cam) (k : CamState) : (s.setCam c k).rstn = s.rstn := rfl
@[simp] theorem State.setCam_parkn (s : State) (c : Cam) (k : CamState) :
    (s.setCam c k).parkn = s.parkn := rfl
@[simp] theorem State.setCam_now (s : State) (c : Cam) (k : CamState) : (s.setCam c k).now = s.now := rfl
@[simp] theorem State.setCam_fresh (s : State) (c : Cam) (k : CamState) :
    (s.setCam c k).fresh = s.fresh := rfl
@[simp] theorem State.setCam_pending (s : State) (c : Cam) (k : CamState) :
    (s.setCam c k).pending = s.pending := rfl
@[simp] theorem State.setCam_cfg (s : State) (c : Cam) (k : CamState) (i : Cam) : (s.setCam c k).cfg i = s.cfg i := rfl

/-! ## What `setLane` leaves -/

@[simp] theorem State.setLane_mode (s : State) (c : Cam) (l : Lane) : (s.setLane c l).mode = s.mode := rfl
@[simp] theorem State.setLane_items (s : State) (c : Cam) (l : Lane) : (s.setLane c l).items = s.items := rfl
@[simp] theorem State.setLane_tracker (s : State) (c : Cam) (l : Lane) :
    (s.setLane c l).tracker = s.tracker := rfl
@[simp] theorem State.setLane_table (s : State) (c : Cam) (l : Lane) : (s.setLane c l).table = s.table := rfl
@[simp] theorem State.setLane_parkLine (s : State) (c : Cam) (l : Lane) :
    (s.setLane c l).parkLine = s.parkLine := rfl
@[simp] theorem State.setLane_qualification (s : State) (c : Cam) (l : Lane) :
    (s.setLane c l).qualification = s.qualification := rfl
@[simp] theorem State.setLane_timebase (s : State) (c : Cam) (l : Lane) :
    (s.setLane c l).timebase = s.timebase := rfl
@[simp] theorem State.setLane_lagging (s : State) (c : Cam) (l : Lane) :
    (s.setLane c l).lagging = s.lagging := rfl
@[simp] theorem State.setLane_told (s : State) (c : Cam) (l : Lane) :
    (s.setLane c l).told = s.told := rfl
@[simp] theorem State.setLane_link (s : State) (c : Cam) (l : Lane) : (s.setLane c l).link = s.link := rfl
@[simp] theorem State.setLane_notices (s : State) (c : Cam) (l : Lane) :
    (s.setLane c l).notices = s.notices := rfl
@[simp] theorem State.setLane_mask (s : State) (c : Cam) (l : Lane) : (s.setLane c l).mask = s.mask := rfl
@[simp] theorem State.setLane_counters (s : State) (c : Cam) (l : Lane) :
    (s.setLane c l).counters = s.counters := rfl
@[simp] theorem State.setLane_rstn (s : State) (c : Cam) (l : Lane) : (s.setLane c l).rstn = s.rstn := rfl
@[simp] theorem State.setLane_parkn (s : State) (c : Cam) (l : Lane) : (s.setLane c l).parkn = s.parkn := rfl
@[simp] theorem State.setLane_now (s : State) (c : Cam) (l : Lane) : (s.setLane c l).now = s.now := rfl
@[simp] theorem State.setLane_fresh (s : State) (c : Cam) (l : Lane) : (s.setLane c l).fresh = s.fresh := rfl
@[simp] theorem State.setLane_pending (s : State) (c : Cam) (l : Lane) :
    (s.setLane c l).pending = s.pending := rfl
@[simp] theorem State.setLane_cfg (s : State) (c : Cam) (l : Lane) (i : Cam) : (s.setLane c l).cfg i = s.cfg i := rfl

/-! ## What `setChannel` leaves -/

@[simp] theorem State.setChannel_mode (s : State) (c : Cam) (h : Channel) :
    (s.setChannel c h).mode = s.mode := rfl
@[simp] theorem State.setChannel_items (s : State) (c : Cam) (h : Channel) :
    (s.setChannel c h).items = s.items := rfl
@[simp] theorem State.setChannel_tracker (s : State) (c : Cam) (h : Channel) :
    (s.setChannel c h).tracker = s.tracker := rfl
@[simp] theorem State.setChannel_table (s : State) (c : Cam) (h : Channel) :
    (s.setChannel c h).table = s.table := rfl
@[simp] theorem State.setChannel_parkLine (s : State) (c : Cam) (h : Channel) :
    (s.setChannel c h).parkLine = s.parkLine := rfl
@[simp] theorem State.setChannel_qualification (s : State) (c : Cam) (h : Channel) :
    (s.setChannel c h).qualification = s.qualification := rfl
@[simp] theorem State.setChannel_timebase (s : State) (c : Cam) (h : Channel) :
    (s.setChannel c h).timebase = s.timebase := rfl
@[simp] theorem State.setChannel_lagging (s : State) (c : Cam) (h : Channel) :
    (s.setChannel c h).lagging = s.lagging := rfl
@[simp] theorem State.setChannel_told (s : State) (c : Cam) (h : Channel) :
    (s.setChannel c h).told = s.told := rfl
@[simp] theorem State.setChannel_link (s : State) (c : Cam) (h : Channel) :
    (s.setChannel c h).link = s.link := rfl
@[simp] theorem State.setChannel_notices (s : State) (c : Cam) (h : Channel) :
    (s.setChannel c h).notices = s.notices := rfl
@[simp] theorem State.setChannel_mask (s : State) (c : Cam) (h : Channel) :
    (s.setChannel c h).mask = s.mask := rfl
@[simp] theorem State.setChannel_counters (s : State) (c : Cam) (h : Channel) :
    (s.setChannel c h).counters = s.counters := rfl
@[simp] theorem State.setChannel_rstn (s : State) (c : Cam) (h : Channel) :
    (s.setChannel c h).rstn = s.rstn := rfl
@[simp] theorem State.setChannel_parkn (s : State) (c : Cam) (h : Channel) :
    (s.setChannel c h).parkn = s.parkn := rfl
@[simp] theorem State.setChannel_now (s : State) (c : Cam) (h : Channel) :
    (s.setChannel c h).now = s.now := rfl
@[simp] theorem State.setChannel_fresh (s : State) (c : Cam) (h : Channel) :
    (s.setChannel c h).fresh = s.fresh := rfl
@[simp] theorem State.setChannel_pending (s : State) (c : Cam) (h : Channel) :
    (s.setChannel c h).pending = s.pending := rfl
@[simp] theorem State.setChannel_cfg (s : State) (c : Cam) (h : Channel) (i : Cam) : (s.setChannel c h).cfg i = s.cfg i := rfl

/-! ## What `setCauses` leaves -/

@[simp] theorem State.setCauses_mode (s : State) (c : Cam) (x : CauseSet) :
    (s.setCauses c x).mode = s.mode := rfl
@[simp] theorem State.setCauses_items (s : State) (c : Cam) (x : CauseSet) :
    (s.setCauses c x).items = s.items := rfl
@[simp] theorem State.setCauses_tracker (s : State) (c : Cam) (x : CauseSet) :
    (s.setCauses c x).tracker = s.tracker := rfl
@[simp] theorem State.setCauses_table (s : State) (c : Cam) (x : CauseSet) :
    (s.setCauses c x).table = s.table := rfl
@[simp] theorem State.setCauses_parkLine (s : State) (c : Cam) (x : CauseSet) :
    (s.setCauses c x).parkLine = s.parkLine := rfl
@[simp] theorem State.setCauses_qualification (s : State) (c : Cam) (x : CauseSet) :
    (s.setCauses c x).qualification = s.qualification := rfl
@[simp] theorem State.setCauses_timebase (s : State) (c : Cam) (x : CauseSet) :
    (s.setCauses c x).timebase = s.timebase := rfl
@[simp] theorem State.setCauses_lagging (s : State) (c : Cam) (x : CauseSet) :
    (s.setCauses c x).lagging = s.lagging := rfl
@[simp] theorem State.setCauses_told (s : State) (c : Cam) (x : CauseSet) :
    (s.setCauses c x).told = s.told := rfl
@[simp] theorem State.setCauses_link (s : State) (c : Cam) (x : CauseSet) :
    (s.setCauses c x).link = s.link := rfl
@[simp] theorem State.setCauses_notices (s : State) (c : Cam) (x : CauseSet) :
    (s.setCauses c x).notices = s.notices := rfl
@[simp] theorem State.setCauses_mask (s : State) (c : Cam) (x : CauseSet) :
    (s.setCauses c x).mask = s.mask := rfl
@[simp] theorem State.setCauses_counters (s : State) (c : Cam) (x : CauseSet) :
    (s.setCauses c x).counters = s.counters := rfl
@[simp] theorem State.setCauses_rstn (s : State) (c : Cam) (x : CauseSet) :
    (s.setCauses c x).rstn = s.rstn := rfl
@[simp] theorem State.setCauses_parkn (s : State) (c : Cam) (x : CauseSet) :
    (s.setCauses c x).parkn = s.parkn := rfl
@[simp] theorem State.setCauses_now (s : State) (c : Cam) (x : CauseSet) :
    (s.setCauses c x).now = s.now := rfl
@[simp] theorem State.setCauses_fresh (s : State) (c : Cam) (x : CauseSet) :
    (s.setCauses c x).fresh = s.fresh := rfl
@[simp] theorem State.setCauses_pending (s : State) (c : Cam) (x : CauseSet) :
    (s.setCauses c x).pending = s.pending := rfl
@[simp] theorem State.setCauses_cfg (s : State) (c : Cam) (x : CauseSet) (i : Cam) : (s.setCauses c x).cfg i = s.cfg i := rfl

/-! ## What `command` leaves -/

@[simp] theorem State.command_mode (s : State) (c : Cam) (mA : Nat) : (s.command c mA).mode = s.mode := rfl
@[simp] theorem State.command_items (s : State) (c : Cam) (mA : Nat) : (s.command c mA).items = s.items := rfl
@[simp] theorem State.command_tracker (s : State) (c : Cam) (mA : Nat) :
    (s.command c mA).tracker = s.tracker := rfl
@[simp] theorem State.command_table (s : State) (c : Cam) (mA : Nat) : (s.command c mA).table = s.table := rfl
@[simp] theorem State.command_parkLine (s : State) (c : Cam) (mA : Nat) :
    (s.command c mA).parkLine = s.parkLine := rfl
@[simp] theorem State.command_qualification (s : State) (c : Cam) (mA : Nat) :
    (s.command c mA).qualification = s.qualification := rfl
@[simp] theorem State.command_timebase (s : State) (c : Cam) (mA : Nat) :
    (s.command c mA).timebase = s.timebase := rfl
@[simp] theorem State.command_lagging (s : State) (c : Cam) (mA : Nat) :
    (s.command c mA).lagging = s.lagging := rfl
@[simp] theorem State.command_told (s : State) (c : Cam) (mA : Nat) :
    (s.command c mA).told = s.told := rfl
@[simp] theorem State.command_link (s : State) (c : Cam) (mA : Nat) : (s.command c mA).link = s.link := rfl
@[simp] theorem State.command_notices (s : State) (c : Cam) (mA : Nat) :
    (s.command c mA).notices = s.notices := rfl
@[simp] theorem State.command_mask (s : State) (c : Cam) (mA : Nat) : (s.command c mA).mask = s.mask := rfl
@[simp] theorem State.command_counters (s : State) (c : Cam) (mA : Nat) :
    (s.command c mA).counters = s.counters := rfl
@[simp] theorem State.command_rstn (s : State) (c : Cam) (mA : Nat) : (s.command c mA).rstn = s.rstn := rfl
@[simp] theorem State.command_parkn (s : State) (c : Cam) (mA : Nat) : (s.command c mA).parkn = s.parkn := rfl
@[simp] theorem State.command_now (s : State) (c : Cam) (mA : Nat) : (s.command c mA).now = s.now := rfl
@[simp] theorem State.command_fresh (s : State) (c : Cam) (mA : Nat) : (s.command c mA).fresh = s.fresh := rfl
@[simp] theorem State.command_pending (s : State) (c : Cam) (mA : Nat) :
    (s.command c mA).pending = s.pending := rfl
@[simp] theorem State.command_cfg (s : State) (c : Cam) (mA : Nat) (i : Cam) : (s.command c mA).cfg i = s.cfg i := rfl

/-! ## What `count` leaves -/

@[simp] theorem State.count_mode (s : State) (k : Counter) : (s.count k).mode = s.mode := rfl
@[simp] theorem State.count_items (s : State) (k : Counter) : (s.count k).items = s.items := rfl
@[simp] theorem State.count_tracker (s : State) (k : Counter) : (s.count k).tracker = s.tracker := rfl
@[simp] theorem State.count_cams (s : State) (k : Counter) : (s.count k).cams = s.cams := rfl
@[simp] theorem State.count_table (s : State) (k : Counter) : (s.count k).table = s.table := rfl
@[simp] theorem State.count_parkLine (s : State) (k : Counter) : (s.count k).parkLine = s.parkLine := rfl
@[simp] theorem State.count_qualification (s : State) (k : Counter) :
    (s.count k).qualification = s.qualification := rfl
@[simp] theorem State.count_timebase (s : State) (k : Counter) : (s.count k).timebase = s.timebase := rfl
@[simp] theorem State.count_lagging (s : State) (k : Counter) : (s.count k).lagging = s.lagging := rfl
@[simp] theorem State.count_told (s : State) (k : Counter) : (s.count k).told = s.told := rfl
@[simp] theorem State.count_link (s : State) (k : Counter) : (s.count k).link = s.link := rfl
@[simp] theorem State.count_notices (s : State) (k : Counter) : (s.count k).notices = s.notices := rfl
@[simp] theorem State.count_mask (s : State) (k : Counter) : (s.count k).mask = s.mask := rfl
@[simp] theorem State.count_rstn (s : State) (k : Counter) : (s.count k).rstn = s.rstn := rfl
@[simp] theorem State.count_parkn (s : State) (k : Counter) : (s.count k).parkn = s.parkn := rfl
@[simp] theorem State.count_now (s : State) (k : Counter) : (s.count k).now = s.now := rfl
@[simp] theorem State.count_fresh (s : State) (k : Counter) : (s.count k).fresh = s.fresh := rfl
@[simp] theorem State.count_pending (s : State) (k : Counter) : (s.count k).pending = s.pending := rfl
@[simp] theorem State.count_cam (s : State) (k : Counter) (i : Cam) : (s.count k).cam i = s.cam i := rfl
@[simp] theorem State.count_cfg (s : State) (k : Counter) (i : Cam) : (s.count k).cfg i = s.cfg i := rfl

/-! ## What `countCycle` leaves -/

@[simp] theorem State.countCycle_mode (s : State) : (s.countCycle).mode = s.mode := rfl
@[simp] theorem State.countCycle_items (s : State) : (s.countCycle).items = s.items := rfl
@[simp] theorem State.countCycle_tracker (s : State) : (s.countCycle).tracker = s.tracker := rfl
@[simp] theorem State.countCycle_cams (s : State) : (s.countCycle).cams = s.cams := rfl
@[simp] theorem State.countCycle_table (s : State) : (s.countCycle).table = s.table := rfl
@[simp] theorem State.countCycle_parkLine (s : State) : (s.countCycle).parkLine = s.parkLine := rfl
@[simp] theorem State.countCycle_qualification (s : State) :
    (s.countCycle).qualification = s.qualification := rfl
@[simp] theorem State.countCycle_timebase (s : State) : (s.countCycle).timebase = s.timebase := rfl
@[simp] theorem State.countCycle_lagging (s : State) : (s.countCycle).lagging = s.lagging := rfl
@[simp] theorem State.countCycle_told (s : State) : (s.countCycle).told = s.told := rfl
@[simp] theorem State.countCycle_link (s : State) : (s.countCycle).link = s.link := rfl
@[simp] theorem State.countCycle_notices (s : State) : (s.countCycle).notices = s.notices := rfl
@[simp] theorem State.countCycle_mask (s : State) : (s.countCycle).mask = s.mask := rfl
@[simp] theorem State.countCycle_rstn (s : State) : (s.countCycle).rstn = s.rstn := rfl
@[simp] theorem State.countCycle_parkn (s : State) : (s.countCycle).parkn = s.parkn := rfl
@[simp] theorem State.countCycle_now (s : State) : (s.countCycle).now = s.now := rfl
@[simp] theorem State.countCycle_fresh (s : State) : (s.countCycle).fresh = s.fresh := rfl
@[simp] theorem State.countCycle_pending (s : State) : (s.countCycle).pending = s.pending := rfl
@[simp] theorem State.countCycle_cam (s : State) (i : Cam) : (s.countCycle).cam i = s.cam i := rfl
@[simp] theorem State.countCycle_cfg (s : State) (i : Cam) : (s.countCycle).cfg i = s.cfg i := rfl

/-! ## What `notify` leaves -/

@[simp] theorem State.notify_mode (s : State) (n : Notice) : (s.notify n).mode = s.mode := rfl
@[simp] theorem State.notify_items (s : State) (n : Notice) : (s.notify n).items = s.items := rfl
@[simp] theorem State.notify_tracker (s : State) (n : Notice) : (s.notify n).tracker = s.tracker := rfl
@[simp] theorem State.notify_cams (s : State) (n : Notice) : (s.notify n).cams = s.cams := rfl
@[simp] theorem State.notify_table (s : State) (n : Notice) : (s.notify n).table = s.table := rfl
@[simp] theorem State.notify_parkLine (s : State) (n : Notice) : (s.notify n).parkLine = s.parkLine := rfl
@[simp] theorem State.notify_qualification (s : State) (n : Notice) :
    (s.notify n).qualification = s.qualification := rfl
@[simp] theorem State.notify_timebase (s : State) (n : Notice) : (s.notify n).timebase = s.timebase := rfl
@[simp] theorem State.notify_lagging (s : State) (n : Notice) : (s.notify n).lagging = s.lagging := rfl
@[simp] theorem State.notify_told (s : State) (n : Notice) : (s.notify n).told = s.told := rfl
@[simp] theorem State.notify_link (s : State) (n : Notice) : (s.notify n).link = s.link := rfl
@[simp] theorem State.notify_mask (s : State) (n : Notice) : (s.notify n).mask = s.mask := rfl
@[simp] theorem State.notify_counters (s : State) (n : Notice) : (s.notify n).counters = s.counters := rfl
@[simp] theorem State.notify_rstn (s : State) (n : Notice) : (s.notify n).rstn = s.rstn := rfl
@[simp] theorem State.notify_parkn (s : State) (n : Notice) : (s.notify n).parkn = s.parkn := rfl
@[simp] theorem State.notify_now (s : State) (n : Notice) : (s.notify n).now = s.now := rfl
@[simp] theorem State.notify_fresh (s : State) (n : Notice) : (s.notify n).fresh = s.fresh := rfl
@[simp] theorem State.notify_pending (s : State) (n : Notice) : (s.notify n).pending = s.pending := rfl
@[simp] theorem State.notify_cam (s : State) (n : Notice) (i : Cam) : (s.notify n).cam i = s.cam i := rfl
@[simp] theorem State.notify_cfg (s : State) (n : Notice) (i : Cam) : (s.notify n).cfg i = s.cfg i := rfl

/-! ## What `setTracker` leaves -/

@[simp] theorem State.setTracker_mode (s : State) (y : Sync) (v : Nat) :
    (s.setTracker y v).mode = s.mode := rfl
@[simp] theorem State.setTracker_items (s : State) (y : Sync) (v : Nat) :
    (s.setTracker y v).items = s.items := rfl
@[simp] theorem State.setTracker_cams (s : State) (y : Sync) (v : Nat) :
    (s.setTracker y v).cams = s.cams := rfl
@[simp] theorem State.setTracker_table (s : State) (y : Sync) (v : Nat) :
    (s.setTracker y v).table = s.table := rfl
@[simp] theorem State.setTracker_parkLine (s : State) (y : Sync) (v : Nat) :
    (s.setTracker y v).parkLine = s.parkLine := rfl
@[simp] theorem State.setTracker_qualification (s : State) (y : Sync) (v : Nat) :
    (s.setTracker y v).qualification = s.qualification := rfl
@[simp] theorem State.setTracker_timebase (s : State) (y : Sync) (v : Nat) :
    (s.setTracker y v).timebase = s.timebase := rfl
@[simp] theorem State.setTracker_lagging (s : State) (y : Sync) (v : Nat) :
    (s.setTracker y v).lagging = s.lagging := rfl
@[simp] theorem State.setTracker_told (s : State) (y : Sync) (v : Nat) :
    (s.setTracker y v).told = s.told := rfl
@[simp] theorem State.setTracker_link (s : State) (y : Sync) (v : Nat) :
    (s.setTracker y v).link = s.link := rfl
@[simp] theorem State.setTracker_notices (s : State) (y : Sync) (v : Nat) :
    (s.setTracker y v).notices = s.notices := rfl
@[simp] theorem State.setTracker_mask (s : State) (y : Sync) (v : Nat) :
    (s.setTracker y v).mask = s.mask := rfl
@[simp] theorem State.setTracker_counters (s : State) (y : Sync) (v : Nat) :
    (s.setTracker y v).counters = s.counters := rfl
@[simp] theorem State.setTracker_rstn (s : State) (y : Sync) (v : Nat) :
    (s.setTracker y v).rstn = s.rstn := rfl
@[simp] theorem State.setTracker_parkn (s : State) (y : Sync) (v : Nat) :
    (s.setTracker y v).parkn = s.parkn := rfl
@[simp] theorem State.setTracker_now (s : State) (y : Sync) (v : Nat) : (s.setTracker y v).now = s.now := rfl
@[simp] theorem State.setTracker_fresh (s : State) (y : Sync) (v : Nat) :
    (s.setTracker y v).fresh = s.fresh := rfl
@[simp] theorem State.setTracker_pending (s : State) (y : Sync) (v : Nat) :
    (s.setTracker y v).pending = s.pending := rfl
@[simp] theorem State.setTracker_cam (s : State) (y : Sync) (v : Nat) (i : Cam) : (s.setTracker y v).cam i = s.cam i := rfl
@[simp] theorem State.setTracker_cfg (s : State) (y : Sync) (v : Nat) (i : Cam) : (s.setTracker y v).cfg i = s.cfg i := rfl

/-! ## What `draw` leaves -/

@[simp] theorem State.draw_mode (s : State) : (s.draw).mode = s.mode := rfl
@[simp] theorem State.draw_items (s : State) : (s.draw).items = s.items := rfl
@[simp] theorem State.draw_tracker (s : State) : (s.draw).tracker = s.tracker := rfl
@[simp] theorem State.draw_cams (s : State) : (s.draw).cams = s.cams := rfl
@[simp] theorem State.draw_table (s : State) : (s.draw).table = s.table := rfl
@[simp] theorem State.draw_parkLine (s : State) : (s.draw).parkLine = s.parkLine := rfl
@[simp] theorem State.draw_qualification (s : State) : (s.draw).qualification = s.qualification := rfl
@[simp] theorem State.draw_timebase (s : State) : (s.draw).timebase = s.timebase := rfl
@[simp] theorem State.draw_lagging (s : State) : (s.draw).lagging = s.lagging := rfl
@[simp] theorem State.draw_told (s : State) : (s.draw).told = s.told := rfl
@[simp] theorem State.draw_link (s : State) : (s.draw).link = s.link := rfl
@[simp] theorem State.draw_notices (s : State) : (s.draw).notices = s.notices := rfl
@[simp] theorem State.draw_mask (s : State) : (s.draw).mask = s.mask := rfl
@[simp] theorem State.draw_counters (s : State) : (s.draw).counters = s.counters := rfl
@[simp] theorem State.draw_rstn (s : State) : (s.draw).rstn = s.rstn := rfl
@[simp] theorem State.draw_parkn (s : State) : (s.draw).parkn = s.parkn := rfl
@[simp] theorem State.draw_now (s : State) : (s.draw).now = s.now := rfl
@[simp] theorem State.draw_pending (s : State) : (s.draw).pending = s.pending := rfl
@[simp] theorem State.draw_cam (s : State) (i : Cam) : (s.draw).cam i = s.cam i := rfl
@[simp] theorem State.draw_cfg (s : State) (i : Cam) : (s.draw).cfg i = s.cfg i := rfl

/-! ## What `drawLagging` leaves -/

@[simp] theorem State.drawLagging_mode (s : State) : (s.drawLagging).mode = s.mode := rfl
@[simp] theorem State.drawLagging_items (s : State) : (s.drawLagging).items = s.items := rfl
@[simp] theorem State.drawLagging_tracker (s : State) : (s.drawLagging).tracker = s.tracker := rfl
@[simp] theorem State.drawLagging_cams (s : State) : (s.drawLagging).cams = s.cams := rfl
@[simp] theorem State.drawLagging_table (s : State) : (s.drawLagging).table = s.table := rfl
@[simp] theorem State.drawLagging_parkLine (s : State) : (s.drawLagging).parkLine = s.parkLine := rfl
@[simp] theorem State.drawLagging_qualification (s : State) : (s.drawLagging).qualification = s.qualification := rfl
@[simp] theorem State.drawLagging_timebase (s : State) : (s.drawLagging).timebase = s.timebase := rfl
@[simp] theorem State.drawLagging_told (s : State) : (s.drawLagging).told = s.told := rfl
@[simp] theorem State.drawLagging_link (s : State) : (s.drawLagging).link = s.link := rfl
@[simp] theorem State.drawLagging_notices (s : State) : (s.drawLagging).notices = s.notices := rfl
@[simp] theorem State.drawLagging_mask (s : State) : (s.drawLagging).mask = s.mask := rfl
@[simp] theorem State.drawLagging_counters (s : State) : (s.drawLagging).counters = s.counters := rfl
@[simp] theorem State.drawLagging_rstn (s : State) : (s.drawLagging).rstn = s.rstn := rfl
@[simp] theorem State.drawLagging_parkn (s : State) : (s.drawLagging).parkn = s.parkn := rfl
@[simp] theorem State.drawLagging_now (s : State) : (s.drawLagging).now = s.now := rfl
@[simp] theorem State.drawLagging_pending (s : State) : (s.drawLagging).pending = s.pending := rfl
@[simp] theorem State.drawLagging_cam (s : State) (i : Cam) : (s.drawLagging).cam i = s.cam i := rfl
@[simp] theorem State.drawLagging_cfg (s : State) (i : Cam) : (s.drawLagging).cfg i = s.cfg i := rfl

/-- A cam lags as the free value says (R132). -/
@[simp] theorem State.drawLagging_lagging (s : State) (c : Cam) :
    (s.drawLagging).lagging.get c = Config.laggingChoice s.fresh c := by
  cases c <;> rfl

/-! ## What `withdrawCam` leaves -/

@[simp] theorem State.withdrawCam_mode (s : State) (c : Cam) : (s.withdrawCam c).mode = s.mode := rfl
@[simp] theorem State.withdrawCam_items (s : State) (c : Cam) : (s.withdrawCam c).items = s.items := rfl
@[simp] theorem State.withdrawCam_tracker (s : State) (c : Cam) : (s.withdrawCam c).tracker = s.tracker := rfl
@[simp] theorem State.withdrawCam_cams (s : State) (c : Cam) : (s.withdrawCam c).cams = s.cams := rfl
@[simp] theorem State.withdrawCam_parkLine (s : State) (c : Cam) :
    (s.withdrawCam c).parkLine = s.parkLine := rfl
@[simp] theorem State.withdrawCam_qualification (s : State) (c : Cam) :
    (s.withdrawCam c).qualification = s.qualification := rfl
@[simp] theorem State.withdrawCam_timebase (s : State) (c : Cam) :
    (s.withdrawCam c).timebase = s.timebase := rfl
@[simp] theorem State.withdrawCam_lagging (s : State) (c : Cam) :
    (s.withdrawCam c).lagging = s.lagging := rfl
@[simp] theorem State.withdrawCam_told (s : State) (c : Cam) :
    (s.withdrawCam c).told = s.told := rfl
@[simp] theorem State.withdrawCam_link (s : State) (c : Cam) : (s.withdrawCam c).link = s.link := rfl
@[simp] theorem State.withdrawCam_notices (s : State) (c : Cam) : (s.withdrawCam c).notices = s.notices := rfl
@[simp] theorem State.withdrawCam_mask (s : State) (c : Cam) : (s.withdrawCam c).mask = s.mask := rfl
@[simp] theorem State.withdrawCam_counters (s : State) (c : Cam) :
    (s.withdrawCam c).counters = s.counters := rfl
@[simp] theorem State.withdrawCam_rstn (s : State) (c : Cam) : (s.withdrawCam c).rstn = s.rstn := rfl
@[simp] theorem State.withdrawCam_parkn (s : State) (c : Cam) : (s.withdrawCam c).parkn = s.parkn := rfl
@[simp] theorem State.withdrawCam_now (s : State) (c : Cam) : (s.withdrawCam c).now = s.now := rfl
@[simp] theorem State.withdrawCam_fresh (s : State) (c : Cam) : (s.withdrawCam c).fresh = s.fresh := rfl
@[simp] theorem State.withdrawCam_pending (s : State) (c : Cam) : (s.withdrawCam c).pending = s.pending := rfl
@[simp] theorem State.withdrawCam_cam (s : State) (c : Cam) (i : Cam) : (s.withdrawCam c).cam i = s.cam i := rfl
@[simp] theorem State.withdrawCam_cfg (s : State) (c : Cam) (i : Cam) : (s.withdrawCam c).cfg i = s.cfg i := rfl

/-! ## What `withdrawAll` leaves -/

@[simp] theorem State.withdrawAll_mode (s : State) : (s.withdrawAll).mode = s.mode := rfl
@[simp] theorem State.withdrawAll_items (s : State) : (s.withdrawAll).items = s.items := rfl
@[simp] theorem State.withdrawAll_tracker (s : State) : (s.withdrawAll).tracker = s.tracker := rfl
@[simp] theorem State.withdrawAll_cams (s : State) : (s.withdrawAll).cams = s.cams := rfl
@[simp] theorem State.withdrawAll_parkLine (s : State) : (s.withdrawAll).parkLine = s.parkLine := rfl
@[simp] theorem State.withdrawAll_qualification (s : State) :
    (s.withdrawAll).qualification = s.qualification := rfl
@[simp] theorem State.withdrawAll_timebase (s : State) : (s.withdrawAll).timebase = s.timebase := rfl
@[simp] theorem State.withdrawAll_lagging (s : State) : (s.withdrawAll).lagging = s.lagging := rfl
@[simp] theorem State.withdrawAll_told (s : State) : (s.withdrawAll).told = s.told := rfl
@[simp] theorem State.withdrawAll_link (s : State) : (s.withdrawAll).link = s.link := rfl
@[simp] theorem State.withdrawAll_notices (s : State) : (s.withdrawAll).notices = s.notices := rfl
@[simp] theorem State.withdrawAll_mask (s : State) : (s.withdrawAll).mask = s.mask := rfl
@[simp] theorem State.withdrawAll_counters (s : State) : (s.withdrawAll).counters = s.counters := rfl
@[simp] theorem State.withdrawAll_rstn (s : State) : (s.withdrawAll).rstn = s.rstn := rfl
@[simp] theorem State.withdrawAll_parkn (s : State) : (s.withdrawAll).parkn = s.parkn := rfl
@[simp] theorem State.withdrawAll_now (s : State) : (s.withdrawAll).now = s.now := rfl
@[simp] theorem State.withdrawAll_fresh (s : State) : (s.withdrawAll).fresh = s.fresh := rfl
@[simp] theorem State.withdrawAll_pending (s : State) : (s.withdrawAll).pending = s.pending := rfl
@[simp] theorem State.withdrawAll_cam (s : State) (i : Cam) : (s.withdrawAll).cam i = s.cam i := rfl
@[simp] theorem State.withdrawAll_cfg (s : State) (i : Cam) : (s.withdrawAll).cfg i = s.cfg i := rfl

end Sys2Proof.Machine
end

