-- ==== Sys2Proof/Laws/Ops.lean ====
section
/-! SUPPORT. What each shared operation does, said once: the instants, the counters, a request at its
owner, the bytes of the link, handles, a fault's entry, and what an operation on one cam can reach. -/

namespace Sys2Proof.Machine

/-! ## Instants and counters -/

/-- An event whose instant does not lie before one already taken happens at it. -/
theorem State.at_of_le {s : State} {t : Nat} (h : s.now ≤ t) (event : State → State) :
    s.at t event = event { s with now := t } := by
  simp [State.at, Nat.not_lt.mpr h]

/-- A command whose instant lies before one already taken changes nothing. -/
theorem State.at_of_lt {s : State} {t : Nat} (h : t < s.now) (event : State → State) :
    s.at t event = s := by
  simp [State.at, h]

/-- The counter just written. -/
@[simp] theorem CamCounters.get_put_self (k : CamCounters) (i : CamCounter) (n : Nat) :
    (k.put i n).get i = n := by
  cases i <;> rfl

/-- Another counter of the group. -/
theorem CamCounters.get_put_ne (k : CamCounters) {i j : CamCounter} (h : j ≠ i) (n : Nat) :
    (k.put i n).get j = k.get j := by
  cases i <;> cases j <;> first | rfl | exact absurd rfl h

/-- The counter just written. -/
@[simp] theorem Counters.get_put_self (k : Counters) (i : Counter) (n : Nat) : (k.put i n).get i = n := by
  cases i <;> first | rfl | simp [Counters.put, Counters.get]

/-- Another counter. -/
theorem Counters.get_put_ne (k : Counters) {i j : Counter} (h : j ≠ i) (n : Nat) :
    (k.put i n).get j = k.get j := by
  cases i with
  | ofCam c i =>
    cases j with
    | ofCam b j =>
      by_cases hb : b = c
      · subst hb
        have hj : j ≠ i := fun e => h (by rw [e])
        simp [Counters.put, Counters.get, CamCounters.get_put_ne _ hj]
      · simp [Counters.put, Counters.get, PerCam.get_set_ne _ hb]
    | _ => rfl
  | _ => cases j <;> first | rfl | exact absurd rfl h

/-- CYCLES is none of the thirty. -/
@[simp] theorem Counters.put_cycles (k : Counters) (i : Counter) (n : Nat) :
    (k.put i n).cycles = k.cycles := by
  cases i <;> rfl

/-- A count that fits 16 bits stays within them (R179). -/
theorem counterNext_le (wrap : Bool) (n : Nat) : counterNext wrap n ≤ 65535 := by
  unfold counterNext; split
  · omega
  · split <;> omega

/-- Counting several like events changes the counters alone. -/
theorem State.countTimes_eq (s : State) (k : Counter) (n : Nat) :
    s.countTimes k n = { s with counters := (s.countTimes k n).counters } := by
  induction n generalizing s with
  | zero => rfl
  | succ n ih => rw [State.countTimes, ih]; rfl

/-- Counting several like events repeats one increment of that counter. -/
theorem State.countTimes_get (s : State) (k : Counter) (n : Nat) :
    (s.countTimes k n).counters.get k =
      Nat.repeat (counterNext s.items.global.counterWrap) n (s.counters.get k) := by
  have swap : ∀ (f : Nat → Nat) (n x : Nat), Nat.repeat f n (f x) = f (Nat.repeat f n x) := by
    intro f n x
    induction n with
    | zero => rfl
    | succ n ih => simp [Nat.repeat, ih]
  induction n generalizing s with
  | zero => rfl
  | succ n ih =>
    rw [State.countTimes, ih]
    simp [State.count_counters, swap, Nat.repeat]

/-! ## Notices -/

/-- A notice just set stands set. -/
@[simp] theorem State.notify_set_self (s : State) (n : Notice) : (s.notify n).noticeSet n = true := by
  have : n.bit < 16 := by cases n <;> first | decide | (rename_i c; cases c <;> decide)
  simp [State.noticeSet, State.notify, this]

/-- A notice that stands set stays set when another is set (R176). -/
theorem State.notify_keeps (s : State) (n m : Notice) (h : s.noticeSet n = true) :
    (s.notify m).noticeSet n = true := by
  simp only [State.noticeSet, State.notify, BitVec.getLsbD_or] at *
  simp [h]

/-! ## Bytes -/

/-- The value of a byte formed from a number that fits it. -/
theorem u8_toNat {n : Nat} (h : n < 256) : (u8 n).toNat = n := by
  simp [u8]; omega

/-- Two bytes give back the value they were formed from. -/
theorem fromBe16_be16 {n : Nat} (h : n < 65536) : fromBe16 (u8 (n / 256)) (u8 n) = n := by
  simp [fromBe16, u8]; omega

/-- Eight clocks make a byte, and what is left over is disregarded (R161). -/
theorem assemble_length (sampled : List Bool) : (assemble sampled).length = sampled.length / 8 := by
  induction sampled using assemble.induct with
  | case1 => simp_all [assemble]; omega
  | case2 l h =>
    rw [assemble]
    · match l, h with
      | [], _ | [_], _ | [_, _], _ | [_, _, _], _ | [_, _, _, _], _ | [_, _, _, _, _], _
      | [_, _, _, _, _, _], _ | [_, _, _, _, _, _, _], _ => simp
      | _ :: _ :: _ :: _ :: _ :: _ :: _ :: _ :: _, h => exact absurd rfl (h _ _ _ _ _ _ _ _ _)
    · exact h

/-- A response frame has five bytes beside its payload (R165). -/
theorem Response.bytes_length (r : Response) : r.bytes.length = r.payload.length + 5 := by
  simp [Response.bytes]

/-- A request's code names it. -/
@[simp] theorem Request.ofCode_code (r : Request) : Request.ofCode r.code = some r := by
  cases r <;> rfl

/-- A frame laid out as R162 has it is delivered to the owner of its CMD, or answered UNKNOWN (R163). -/
theorem judgeFrame_requestFrame (cmd : Byte) (p extra : List Byte) (h : p.length ≤ 40) :
    judgeFrame (requestFrame cmd p ++ extra) =
      match Request.ofCode cmd with
      | none => .answered cmd .unknown none true
      | some r => .delivered r p := by
  have hp : (u8 p.length).toNat = p.length := u8_toNat (by omega)
  have h1 : ¬ 40 < p.length := by omega
  simp only [judgeFrame, requestFrame, List.cons_append, List.append_assoc, List.length_append, hp]
  cases Request.ofCode cmd <;> simp [h1]

/-- A cam's index names it. -/
theorem camOfIndex_eq_some {n : Nat} {c : Cam} : camOfIndex n = some c ↔ n = c.index := by
  constructor
  · intro h
    unfold camOfIndex at h
    split at h <;> cases c <;> first | rfl | simp at h
  · rintro rfl
    cases c <;> rfl

/-- An index above 3 names no cam. -/
theorem camOfIndex_eq_none {n : Nat} : camOfIndex n = none ↔ 3 < n := by
  match n with
  | 0 | 1 | 2 | 3 => simp [camOfIndex]
  | n + 4 => simp [camOfIndex]

/-- Two bytes name an item reference exactly when they are its number and its cam index (R150). -/
theorem ItemRef.ofBytes_eq_some (item cam : Byte) (i : ItemRef) :
    ItemRef.ofBytes item cam = some i ↔ i.Names item cam := by
  have hg : ∀ g : GlobalItem, item.toNat = g.number →
      GlobalItem.all.find? (fun i => i.number == item.toNat) = some g := by
    intro g h; rw [h]; cases g <;> rfl
  have hk : ∀ g : CamItem, item.toNat = g.number →
      CamItem.all.find? (fun i => i.number == item.toNat) = some g := by
    intro g h; rw [h]; cases g <;> rfl
  have hgk : ∀ g : CamItem, item.toNat = g.number →
      GlobalItem.all.find? (fun i => i.number == item.toNat) = none := by
    intro g h; rw [h]; cases g <;> rfl
  have hz : cam.toNat = 0 ↔ cam = 0#8 :=
    ⟨fun h => BitVec.eq_of_toNat_eq (by simpa using h), fun h => by simp [h]⟩
  unfold ItemRef.ofBytes
  cases i with
  | global g =>
    simp only [ItemRef.Names]
    constructor
    · intro h
      split at h
      · rename_i j hj
        have hn := List.find?_some hj
        simp only [beq_iff_eq] at hn
        split at h <;> simp at h
        subst h
        exact ⟨hn.symm, hz.1 ‹_›⟩
      · split at h <;> simp at h
    · rintro ⟨h, h2⟩
      simp [hg g h, h2]
  | ofCam k c =>
    simp only [ItemRef.Names]
    constructor
    · intro h
      split at h
      · split at h <;> simp at h
      · split at h
        · rename_i j b hj hb
          have hn := List.find?_some hj
          simp only [beq_iff_eq] at hn
          simp only [Option.some.injEq, ItemRef.ofCam.injEq] at h
          obtain ⟨rfl, rfl⟩ := h
          exact ⟨hn.symm, camOfIndex_eq_some.1 hb⟩
        · simp at h
    · rintro ⟨h, h2⟩
      simp [hk k h, hgk k h, camOfIndex_eq_some.2 h2]

/-! ## A request at its owner -/

/-- A delivered request is taken, and its owner's reply is the answer in hand. -/
theorem State.serve_of_delivers {s : State} {r : Request} {p : List Byte} (h : s.delivers r p)
    (owner : State → List Byte → Reply) :
    s.serve r owner = (owner s p).state.answered r (owner s p).result (owner s p).payload := by
  unfold State.delivers at h
  simp [State.serve, h, State.answered]

/-- A request that was not delivered comes to nothing. -/
theorem State.serve_of_not {s : State} {r : Request} (h : ∀ p, ¬ s.delivers r p)
    (owner : State → List Byte → Reply) : s.serve r owner = s := by
  unfold State.delivers at h
  unfold State.serve
  split
  · rename_i q hq
    have hr : q.request ≠ r := fun e => h q.payload (by rw [hq, ← e])
    simp [hr]
  · rfl

/-- A handle is live exactly when the table finds its record. -/
theorem State.live_iff (s : State) (h : Byte) (r : Record) : s.live h r ↔ lookup s.table h.toNat = some r := by
  unfold State.live lookup
  cases hx : s.table[h.toNat % 32]? with
  | none => simp
  | some x =>
    obtain ⟨g, record⟩ := x
    by_cases hg : g = h.toNat / 32 <;> simp [hg]

/-- A handle is stale exactly when the table finds no record. -/
theorem State.stale_iff (s : State) (h : Byte) : s.stale h ↔ lookup s.table h.toNat = none := by
  unfold State.stale
  simp only [State.live_iff]
  cases lookup s.table h.toNat <;> simp

/-- A POST payload is read back as it was laid out (R170). -/
theorem parsePost_bytes {f : PostForm} (h : f.LaidOut) : parsePost f.bytes = some f := by
  obtain ⟨owner, cls, cams, rank, first, second, lifetime, flags, band, cap⟩ := f
  simp only [PostForm.LaidOut] at h
  obtain ⟨h1, h2, h3, h4, h5, h6, h7, h8, h9, h10⟩ := h
  cases band <;> cases cap <;>
    simp_all [PostForm.bytes, be16, parsePost, pairBytes, partByte, takeBand, takeByte, u8_toNat,
      fromBe16_be16]

/-! ## A cam's faults -/

/-- The entry to FAULT has the effects of R109, and no other. -/
theorem State.enterFault_eq (s : State) (c : Cam) (cause : Cause) : s.enterFault c cause = s.faulted c cause := by
  unfold State.enterFault State.faulted State.abortLearn
  cases hl : (s.cam c).phaser.learning <;> cases cause <;>
    simp [State.endLearn, State.standDown, State.setCauses, State.countFault, State.clearArbiter,
      State.withdrawCam, State.command, State.setCam, State.notify, State.count, State.cam, Arbiter.clear,
      Arbiter.reset, Sequencer.resetRuns, Sequencer.aborted, CauseSet.empty, CauseSet.add, Loop.reset,
      mapRecords, Record.write, Outcome.fresh, State.abortNotices, Notice.bit] <;>
    simp_all [State.cam]

/-- A fault report at an enabled cam is the entry to FAULT, or in FAULT adds its cause (R108 to R110). -/
theorem State.reportFault_eq {s : State} {c : Cam} (h : s.enabled c = true) (cause : Cause) :
    s.reportFault c cause = s.reported c cause := by
  unfold State.reportFault State.reported
  cases hp : (s.cam c).phaser.state with
  | disabled => simp [State.enabled, hp] at h
  | fault =>
    cases cause <;>
      simp [State.faultAdded, State.setCauses, State.countFault, CauseSet.add, State.setCam, State.count,
        State.notify, Notice.bit]
  | _ => simp [State.enterFault_eq]

/-- A DISABLED cam takes no fault report (R108). -/
theorem State.reportFault_of_disabled {s : State} {c : Cam} (h : s.enabled c = false) (cause : Cause) :
    s.reportFault c cause = s := by
  simp only [State.enabled, decide_eq_false_iff_not, ne_eq, Decidable.not_not] at h
  simp [State.reportFault, h]

/-! ## What an operation on one cam can reach -/

/-- `u` differs from `s` in one cam's blocks, the table, the counters and the notices alone. -/
def LocalTo (c : Cam) (s u : State) : Prop :=
  u = { s with cams := s.cams.set c (u.cam c), table := u.table, counters := u.counters, notices := u.notices }

/-- Nothing changed is local to any cam. -/
theorem LocalTo.refl (c : Cam) (s : State) : LocalTo c s s := by
  unfold LocalTo State.cam; simp

/-- Two operations on a cam are one. -/
theorem LocalTo.trans {c : Cam} {s u v : State} (h : LocalTo c s u) (k : LocalTo c u v) : LocalTo c s v := by
  unfold LocalTo at *
  have hc : u.cams.set c (v.cam c) = s.cams.set c (v.cam c) := by rw [h]; simp
  rw [k, h]
  simp [State.cam]

/-- Another cam's blocks after an operation on one. -/
theorem LocalTo.cam_ne {c b : Cam} {s u : State} (h : LocalTo c s u) (hb : b ≠ c) : u.cam b = s.cam b := by
  rw [h]; exact PerCam.get_set_ne _ hb _

/-- Setting a cam's blocks is local to it. -/
theorem State.setCam_localTo (s : State) (c : Cam) (k : CamState) : LocalTo c s (s.setCam c k) := by
  unfold LocalTo; simp [State.setCam, State.cam]

/-- A count is local to any cam. -/
theorem State.count_localTo (s : State) (c : Cam) (k : Counter) : LocalTo c s (s.count k) := by
  unfold LocalTo; simp [State.count, State.cam]

/-- A notice is local to any cam. -/
theorem State.notify_localTo (s : State) (c : Cam) (n : Notice) : LocalTo c s (s.notify n) := by
  unfold LocalTo; simp [State.notify, State.cam]

/-- A change of the table is local to any cam. -/
theorem State.table_localTo (s : State) (c : Cam) (t : List Slot) : LocalTo c s { s with table := t } := by
  unfold LocalTo; simp [State.cam]

/-- A command written to a channel. -/
theorem State.command_localTo (s : State) (c : Cam) (mA : Nat) : LocalTo c s (s.command c mA) :=
  s.setCam_localTo c _

/-- The entry to FAULT. -/
theorem State.faulted_localTo (s : State) (c : Cam) (cause : Cause) : LocalTo c s (s.faulted c cause) := by
  unfold LocalTo; simp [State.faulted, State.cam]

/-- A fault report. -/
theorem State.reportFault_localTo (s : State) (c : Cam) (cause : Cause) : LocalTo c s (s.reportFault c cause) := by
  unfold State.reportFault
  split
  · exact .refl c s
  · exact ((s.setCam_localTo c _).trans (State.count_localTo _ c _)).trans (State.notify_localTo _ c _)
  all_goals
    rw [State.enterFault_eq]
    exact s.faulted_localTo c cause

/-- The end of a learn. -/
theorem State.endLearn_localTo (s : State) (c : Cam) (x : LearnResult) : LocalTo c s (s.endLearn c x) :=
  (s.setCam_localTo c _).trans (State.notify_localTo _ c _)

/-- An abort of a learn. -/
theorem State.abortLearn_localTo (s : State) (c : Cam) : LocalTo c s (s.abortLearn c) := by
  unfold State.abortLearn
  split
  · exact s.endLearn_localTo c _
  · exact .refl c s

/-- The end of a learn by its eighth sample. -/
theorem State.completeLearn_localTo (s : State) (c : Cam) : LocalTo c s (s.completeLearn c) := by
  unfold State.completeLearn
  dsimp only
  split
  · exact (s.setCam_localTo c _).trans (State.endLearn_localTo _ c _)
  · exact s.endLearn_localTo c _

/-- A sample of a learn. -/
theorem State.learnSample_localTo (s : State) (c : Cam) (d : Int) : LocalTo c s (s.learnSample c d) := by
  unfold State.learnSample
  dsimp only
  split
  · split
    · exact (s.setCam_localTo c _).trans (State.completeLearn_localTo _ c)
    · exact s.setCam_localTo c _
  · exact .refl c s

/-- A position loop's update (R120). -/
theorem State.updateLoop_localTo (s : State) (c : Cam) (d : Int) : LocalTo c s (s.updateLoop c d) := by
  unfold State.updateLoop
  exact (s.setCam_localTo c _).trans (State.command_localTo _ c _)

/-- A measurement event at the sequencer. -/
theorem State.takeEvent_localTo (s : State) (c : Cam) (j : Nat) (d : Int) : LocalTo c s (s.takeEvent c j d) := by
  unfold State.takeEvent
  dsimp only
  split
  · split
    · exact (s.abortLearn_localTo c).trans ((State.setCam_localTo _ c _).trans (State.command_localTo _ c _))
    · exact s.learnSample_localTo c d
  · split
    · exact (s.setCam_localTo c _).trans (State.command_localTo _ c _)
    · split
      · exact s.setCam_localTo c _
      · exact .refl c s
  · refine (s.updateLoop_localTo c d).trans ?_
    unfold State.trackTests
    dsimp only
    repeat' split
    all_goals
      first
      | exact State.setCam_localTo _ c _
      | exact (State.setCam_localTo _ c _).trans (State.command_localTo _ c _)
  all_goals exact .refl c s

/-- An arbitration. -/
theorem State.arbitrate_localTo (s : State) (c : Cam) : LocalTo c s (s.arbitrate c) := by
  unfold State.arbitrate
  dsimp only
  split
  · exact (s.setCam_localTo c _).trans (State.table_localTo _ c _)
  · split
    · exact ((s.setCam_localTo c _).trans (State.table_localTo _ c _)).trans (State.notify_localTo _ c _)
    · exact (s.setCam_localTo c _).trans (State.table_localTo _ c _)

/-- A measurement event at the arbiter and the sequencer (R71, R95). -/
theorem State.measurementEvent_localTo (s : State) (c : Cam) (j : Nat) (d : Int) :
    LocalTo c s (s.measurementEvent c j d) := by
  unfold State.measurementEvent State.updatePoint
  refine LocalTo.trans ?_ (State.takeEvent_localTo _ c j d)
  split
  · split
    · exact s.arbitrate_localTo c
    · exact .refl c s
  · exact .refl c s

/-- A cycle mark at the sequencer (R96). -/
theorem State.cycleMark_localTo (s : State) (c : Cam) : LocalTo c s (s.cycleMark c) := by
  unfold State.cycleMark
  split
  · unfold State.releaseMark
    dsimp only
    split
    · exact (s.setCam_localTo c _).trans (State.setCam_localTo _ c _)
    · split
      · exact (s.setCam_localTo c _).trans (State.reportFault_localTo _ c _)
      · exact s.setCam_localTo c _
  · unfold State.trackMark
    dsimp only
    split
    · exact .refl c s
    · split
      · exact (s.setCam_localTo c _).trans (State.reportFault_localTo _ c _)
      · exact s.setCam_localTo c _
  all_goals exact .refl c s

/-- An edge classified by its lane (R28). -/
theorem State.classify_localTo (s : State) (c : Cam) (a : Nat) : LocalTo c s (s.classify c a) := by
  unfold State.classify
  dsimp only
  split
  · split
    · split
      · exact s.count_localTo c _
      · exact ((s.setCam_localTo c _).trans (State.count_localTo _ c _)).trans
          (State.measurementEvent_localTo _ c _ _)
    · exact .refl c s
  · split
    · exact (s.count_localTo c _).trans (State.count_localTo _ c _)
    · exact s.count_localTo c _

/-- A miss (R37). -/
theorem State.miss_localTo (s : State) (c : Cam) : LocalTo c s (s.miss c) := by
  unfold State.miss
  dsimp only
  split
  · split
    · exact ((s.count_localTo c _).trans (State.setCam_localTo _ c _)).trans
        (State.reportFault_localTo _ c _)
    · exact (s.count_localTo c _).trans (State.setCam_localTo _ c _)
  · exact s.count_localTo c _

/-- A window's close (R36). -/
theorem State.closeWindow_localTo (s : State) (c : Cam) (j : Nat) : LocalTo c s (s.closeWindow c j) := by
  unfold State.closeWindow
  dsimp only
  split
  · split
    · exact s.setCam_localTo c _
    · exact (s.setCam_localTo c _).trans (State.miss_localTo _ c)
  · exact .refl c s

/-- A window's close by a motion of the clock (R17). -/
theorem State.closeBy_localTo (s : State) (old new : Nat) (c : Cam) (j : Nat) :
    LocalTo c s (s.closeBy old new c j) := by
  unfold State.closeBy
  split
  · split
    · exact s.closeWindow_localTo c j
    · exact .refl c s
  · exact .refl c s

/-! ## The park line -/

/-- An assertion at a sequencer (R106). -/
theorem State.forceOnAssert_localTo (s : State) (c : Cam) : LocalTo c s (s.forceOnAssert c) := by
  unfold State.forceOnAssert State.standDown
  split
  · exact (s.abortLearn_localTo c).trans ((State.setCam_localTo _ c _).trans (State.command_localTo _ c _))
  · exact .refl c s

/-- A release of the line at a sequencer (R107). -/
theorem State.parkOnRelease_localTo (s : State) (c : Cam) : LocalTo c s (s.parkOnRelease c) := by
  unfold State.parkOnRelease
  dsimp only
  split
  · exact (s.setCam_localTo c _).trans (State.command_localTo _ c _)
  · exact .refl c s

/-- A sequencer that takes the assertion it was told of has no more to take, and moves its own cam alone
(R106, R132). -/
theorem State.takeAssertion_localTo (c : Cam) (s : State) :
    LocalTo c { s with told := s.told.set c false } (s.takeAssertion c) := by
  unfold State.takeAssertion
  split
  · dsimp only
    split
    · exact State.forceOnAssert_localTo _ c
    · exact (State.forceOnAssert_localTo _ c).trans (State.parkOnRelease_localTo _ c)
  · rename_i h
    have ht : s.told.set c false = s.told := by
      rw [← Bool.eq_false_iff.2 h, PerCam.set_get]
    rw [ht]
    exact .refl c s

/-- An occasion to take an assertion: of the sequencers that wait, those that lag go on waiting. -/
theorem State.takeUp_told (s : State) (c : Cam) :
    s.takeUp.told.get c = (s.told.get c && s.lagging.get c) := by
  let f := fun (b : Cam) (u : State) => if u.lagging.get b = true then u else u.takeAssertion b
  have told : ∀ b u, (f b u).told.get c = if c = b then u.told.get c && u.lagging.get c else u.told.get c := by
    intro b u
    by_cases hl : u.lagging.get b = true
    · by_cases hc : c = b <;> simp [f, hl, hc]
    · rw [show f b u = u.takeAssertion b from if_neg hl, u.takeAssertion_localTo b]
      by_cases hc : c = b <;> simp_all [PerCam.get_set]
  have lags : ∀ b u, (f b u).lagging = u.lagging := by
    intro b u
    by_cases hl : u.lagging.get b = true
    · simp [f, hl]
    · rw [show f b u = u.takeAssertion b from if_neg hl, u.takeAssertion_localTo b]
  change (f .re (f .ri (f .fe (f .fi s)))).told.get c = _
  simp only [told, lags]
  cases c <;> simp

/-- With no sequencer waiting, an occasion to take an assertion changes nothing. -/
theorem State.hearAssertion_of_none {s : State} (h : s.told = .const false) : s.hearAssertion = s := by
  simp [State.hearAssertion, h]

/-! ## The crank tracker -/

/-- The two conditions of R3, tested state by state. -/
def Sync.noiseAt (t : Nat) : Sync → Bool
  | .stopped => false
  | .seeking q => q.pitch.any (fun p => tooSoon p q.lastTooth t)
  | .crankSync k | .engineSync k _ => tooSoon k.pitch k.lastTooth t

/-- An edge is noise exactly when the tracker's own test rejects it. -/
theorem Sync.noise_iff (y : Sync) (t : Nat) : y.Noise t ↔ y.noiseAt t = true := by
  cases y with
  | stopped => simp [Sync.Noise, Sync.knownPitch, Sync.noiseAt]
  | seeking q =>
    cases h : q.pitch <;> simp [Sync.Noise, Sync.knownPitch, Sync.lastTooth, Sync.noiseAt, tooSoon, h]
  | crankSync k => simp [Sync.Noise, Sync.knownPitch, Sync.lastTooth, Sync.noiseAt, tooSoon]
  | engineSync k y => simp [Sync.Noise, Sync.knownPitch, Sync.lastTooth, Sync.noiseAt, tooSoon]

/-- The tooth period is the time between two teeth, held within 24 bits and above 0 (R4). -/
theorem toothPeriod_eq (last t : Nat) : toothPeriod last t = max 1 (min (t - last) 16777215) := by
  unfold toothPeriod clamp
  split
  · omega
  · split <;> omega

/-- The clock's step stays below the hold limit, whatever its free value (R13). -/
theorem clockStep_le (g : GlobalItems) (k : Tooth) (t : Nat) : clockStep g k t ≤ g.holdLimit k.position - 1 :=
  Nat.min_le_right _ _

/-- At the tooth's own instant the clock has not stepped, whatever the pitch period (R13, R14). -/
@[simp] theorem clockStep_lastTooth (g : GlobalItems) (k : Tooth) : clockStep g k k.lastTooth = 0 := by
  simp [clockStep]

/-- An edge is converted at the clock's angle of its tick, or of the tick before, which only an edge taken before
a close by interpolation keeps (R14, R38). -/
theorem edgeAngle_cases (g : GlobalItems) (ws : List Window) (k : Tooth) (y : Cycle) (t : Nat) :
    edgeAngle g ws k y t = clockAt g k 11520 t ∨
      edgeAngle g ws k y t = clockAt g k 11520 (t - 1) ∧
        ∃ w ∈ ws, w.contains (clockAt g k 11520 (t - 1)) = true ∧ w.passed = false ∧
          interpolates k y (clockAt g k 11520 t) w.closeAngle = true := by
  unfold edgeAngle
  dsimp only
  split
  · rename_i h
    refine .inr ⟨rfl, ?_⟩
    obtain ⟨w, hw, hc⟩ := List.any_eq_true.1 h.2
    simp only [Bool.and_eq_true, Bool.not_eq_true'] at hc
    exact ⟨w, hw, hc.1.1, hc.1.2, hc.2⟩
  · exact .inl rfl

/-- The speed keeps its limit, whatever its free value (R12). -/
theorem engineSpeed_le (g : GlobalItems) (pitch : Nat) : engineSpeed g pitch ≤ 65535 := Nat.min_le_right _ _

/-! ## The demand table -/

/-- An operation made on every live record keeps every slot and its generation. -/
theorem mapRecords_getElem? (f : Record → Record) (t : List Slot) (i : Nat) :
    (mapRecords f t)[i]? = t[i]?.map (fun x => { x with record := x.record.map f }) := by
  simp [mapRecords]

/-- An operation made on every live record by its slot keeps every slot and its generation. -/
theorem mapEntriesFrom_getElem? (f : Nat → Record → Record) (n : Nat) (t : List Slot) (i : Nat) :
    (mapEntriesFrom f n t)[i]? = t[i]?.map (fun x => { x with record := x.record.map (f (n + i)) }) := by
  induction t generalizing n i with
  | nil => simp [mapEntriesFrom]
  | cons x rest ih =>
    cases i with
    | zero => simp [mapEntriesFrom]
    | succ i =>
      simp only [mapEntriesFrom, List.getElem?_cons_succ, ih]
      have : n + 1 + i = n + (i + 1) := by omega
      rw [this]

/-- The live records are those of the occupied slots, each once, with its slot's number. -/
theorem mem_entries (t : List Slot) (e : Entry) :
    e ∈ entries t ↔ t[e.slot]? = some ⟨e.generation, some e.record⟩ := by
  have h : ∀ n, e ∈ entriesFrom n t ↔
      n ≤ e.slot ∧ t[e.slot - n]? = some ⟨e.generation, some e.record⟩ := by
    induction t with
    | nil => intro n; simp [entriesFrom]
    | cons x rest ih =>
      intro n
      obtain ⟨g, record⟩ := x
      have step : (n + 1 ≤ e.slot ∧ rest[e.slot - (n + 1)]? = some ⟨e.generation, some e.record⟩) ↔
          (n < e.slot ∧ ((⟨g, record⟩ : Slot) :: rest)[e.slot - n]? =
            some ⟨e.generation, some e.record⟩) := by
        constructor
        · rintro ⟨h1, h2⟩
          have : e.slot - n = (e.slot - (n + 1)) + 1 := by omega
          exact ⟨h1, by rw [this]; simpa using h2⟩
        · rintro ⟨h1, h2⟩
          have : e.slot - n = (e.slot - (n + 1)) + 1 := by omega
          rw [this] at h2
          exact ⟨h1, by simpa using h2⟩
      cases record with
      | none =>
        simp only [entriesFrom, ih]
        rw [step]
        constructor
        · rintro ⟨h1, h2⟩; exact ⟨by omega, h2⟩
        · rintro ⟨h1, h2⟩
          refine ⟨?_, h2⟩
          rcases Nat.lt_or_ge n e.slot with h3 | h3
          · exact h3
          · have : e.slot - n = 0 := by omega
            simp [this] at h2
      | some r =>
        obtain ⟨slot, generation, record⟩ := e
        simp only [entriesFrom, List.mem_cons, ih]
        simp only at step
        rw [step]
        constructor
        · rintro (h1 | ⟨h1, h2⟩)
          · simp only [Entry.mk.injEq] at h1
            obtain ⟨rfl, rfl, rfl⟩ := h1
            simp
          · exact ⟨by omega, h2⟩
        · rintro ⟨h1, h2⟩
          rcases Nat.lt_or_ge n slot with h3 | h3
          · exact .inr ⟨h3, h2⟩
          · have : slot = n := by omega
            subst this
            simp only [Nat.sub_self, List.getElem?_cons_zero, Option.some.injEq, Slot.mk.injEq] at h2
            simp [h2]
  simpa [entries] using h 0

end Sys2Proof.Machine
end

