-- ==== Sys2Proof/Laws/PerInstr.lean ====
section
/-! SUPPORT. What holds of every command as syntax, one lemma per constructor. -/

namespace Sys2Proof.Laws.WellFormedness

/-- A command is well formed unless it names a window beyond the four a cam may have, and no table word
spells it, since no row of the table gives bits. -/
def Statement (i : Instr) : Prop :=
  (i.wellFormed = true ↔ ∀ c j t, i = .windowClose c j t → j < 4) ∧
  ∀ nbits w : Nat, decodeTableWord nbits w ≠ some i

theorem powerOn (rstn parkn : Level) (t : Nat) : Statement (.powerOn rstn parkn t) :=
  ⟨⟨fun _ _ _ _ => nofun, fun _ => rfl⟩, fun _ _ => nofun⟩

theorem rstn : Statement .rstn :=
  ⟨⟨fun _ _ _ _ => nofun, fun _ => rfl⟩, fun _ _ => nofun⟩

theorem readyDelayExpiry (t : Nat) : Statement (.readyDelayExpiry t) :=
  ⟨⟨fun _ _ _ _ => nofun, fun _ => rfl⟩, fun _ _ => nofun⟩

theorem csnFall : Statement .csnFall :=
  ⟨⟨fun _ _ _ _ => nofun, fun _ => rfl⟩, fun _ _ => nofun⟩

theorem csnRise (sampled : List Bool) (t : Nat) : Statement (.csnRise sampled t) :=
  ⟨⟨fun _ _ _ _ => nofun, fun _ => rfl⟩, fun _ _ => nofun⟩

theorem processingComplete (t : Nat) : Statement (.processingComplete t) :=
  ⟨⟨fun _ _ _ _ => nofun, fun _ => rfl⟩, fun _ _ => nofun⟩

theorem nop : Statement .nop :=
  ⟨⟨fun _ _ _ _ => nofun, fun _ => rfl⟩, fun _ _ => nofun⟩

theorem engineStatus : Statement .engineStatus :=
  ⟨⟨fun _ _ _ _ => nofun, fun _ => rfl⟩, fun _ _ => nofun⟩

theorem camStatus : Statement .camStatus :=
  ⟨⟨fun _ _ _ _ => nofun, fun _ => rfl⟩, fun _ _ => nofun⟩

theorem noticeRead : Statement .noticeRead :=
  ⟨⟨fun _ _ _ _ => nofun, fun _ => rfl⟩, fun _ _ => nofun⟩

theorem noticeMask : Statement .noticeMask :=
  ⟨⟨fun _ _ _ _ => nofun, fun _ => rfl⟩, fun _ _ => nofun⟩

theorem countersRead : Statement .countersRead :=
  ⟨⟨fun _ _ _ _ => nofun, fun _ => rfl⟩, fun _ _ => nofun⟩

theorem post : Statement .post :=
  ⟨⟨fun _ _ _ _ => nofun, fun _ => rfl⟩, fun _ _ => nofun⟩

theorem amend : Statement .amend :=
  ⟨⟨fun _ _ _ _ => nofun, fun _ => rfl⟩, fun _ _ => nofun⟩

theorem renew : Statement .renew :=
  ⟨⟨fun _ _ _ _ => nofun, fun _ => rfl⟩, fun _ _ => nofun⟩

theorem retire : Statement .retire :=
  ⟨⟨fun _ _ _ _ => nofun, fun _ => rfl⟩, fun _ _ => nofun⟩

theorem retireOwner : Statement .retireOwner :=
  ⟨⟨fun _ _ _ _ => nofun, fun _ => rfl⟩, fun _ _ => nofun⟩

theorem query : Statement .query :=
  ⟨⟨fun _ _ _ _ => nofun, fun _ => rfl⟩, fun _ _ => nofun⟩

theorem scan : Statement .scan :=
  ⟨⟨fun _ _ _ _ => nofun, fun _ => rfl⟩, fun _ _ => nofun⟩

theorem learn : Statement .learn :=
  ⟨⟨fun _ _ _ _ => nofun, fun _ => rfl⟩, fun _ _ => nofun⟩

theorem clearFault : Statement .clearFault :=
  ⟨⟨fun _ _ _ _ => nofun, fun _ => rfl⟩, fun _ _ => nofun⟩

theorem configWrite : Statement .configWrite :=
  ⟨⟨fun _ _ _ _ => nofun, fun _ => rfl⟩, fun _ _ => nofun⟩

theorem configRead : Statement .configRead :=
  ⟨⟨fun _ _ _ _ => nofun, fun _ => rfl⟩, fun _ _ => nofun⟩

theorem commit (t : Nat) : Statement (.commit t) :=
  ⟨⟨fun _ _ _ _ => nofun, fun _ => rfl⟩, fun _ _ => nofun⟩

theorem reopen : Statement .reopen :=
  ⟨⟨fun _ _ _ _ => nofun, fun _ => rfl⟩, fun _ _ => nofun⟩

theorem softReset : Statement .softReset :=
  ⟨⟨fun _ _ _ _ => nofun, fun _ => rfl⟩, fun _ _ => nofun⟩

theorem linkLoss (t : Nat) : Statement (.linkLoss t) :=
  ⟨⟨fun _ _ _ _ => nofun, fun _ => rfl⟩, fun _ _ => nofun⟩

theorem crkEdge (edge : Edge) (t : Nat) : Statement (.crkEdge edge t) :=
  ⟨⟨fun _ _ _ _ => nofun, fun _ => rfl⟩, fun _ _ => nofun⟩

theorem stall (t : Nat) : Statement (.stall t) :=
  ⟨⟨fun _ _ _ _ => nofun, fun _ => rfl⟩, fun _ _ => nofun⟩

theorem windowClose (cam : Cam) (window : Nat) (t : Nat) : Statement (.windowClose cam window t) :=
  ⟨by simp [Instr.wellFormed], fun _ _ => nofun⟩

theorem camEdge (cam : Cam) (edge : Edge) (t : Nat) : Statement (.camEdge cam edge t) :=
  ⟨⟨fun _ _ _ _ => nofun, fun _ => rfl⟩, fun _ _ => nofun⟩

theorem overcurrent (cam : Cam) (current : Nat) : Statement (.overcurrent cam current) :=
  ⟨⟨fun _ _ _ _ => nofun, fun _ => rfl⟩, fun _ _ => nofun⟩

theorem pwmPeriodEnd (means : PerCam Nat) (t : Nat) : Statement (.pwmPeriodEnd means t) :=
  ⟨⟨fun _ _ _ _ => nofun, fun _ => rfl⟩, fun _ _ => nofun⟩

theorem parkLineAssert : Statement .parkLineAssert :=
  ⟨⟨fun _ _ _ _ => nofun, fun _ => rfl⟩, fun _ _ => nofun⟩

theorem parknRise (t : Nat) : Statement (.parknRise t) :=
  ⟨⟨fun _ _ _ _ => nofun, fun _ => rfl⟩, fun _ _ => nofun⟩

theorem parkLineRelease (t : Nat) : Statement (.parkLineRelease t) :=
  ⟨⟨fun _ _ _ _ => nofun, fun _ => rfl⟩, fun _ _ => nofun⟩

theorem rstnRise (t : Nat) : Statement (.rstnRise t) :=
  ⟨⟨fun _ _ _ _ => nofun, fun _ => rfl⟩, fun _ _ => nofun⟩

theorem dutyElapsed (cam : Cam) (t : Nat) : Statement (.dutyElapsed cam t) :=
  ⟨⟨fun _ _ _ _ => nofun, fun _ => rfl⟩, fun _ _ => nofun⟩

end Sys2Proof.Laws.WellFormedness
end

