-- ==== Sys2Proof/Tests/Slice0.lean ====
section
/-! SUPPORT. The modeller's own tests: what the manual's worked examples give, and for every statement
with hypotheses a concrete state and operands that meet them together. -/

namespace Sys2Proof.Tests

open Sys2Proof.Machine

/-! ## Well-formedness -/

theorem test_wellFormed_window_3 : (Instr.windowClose .fi 3 0).wellFormed = true := by decide
theorem test_wellFormed_refuses_window_4 : (Instr.windowClose .fi 4 0).wellFormed = false := by decide

/-! ## States -/

/-- FI as the worked commit configures it (section 8.9). -/
def fiItems : CamItems :=
  { CamItems.reset .advance with
    enable := true, windowCount := 3, windowBase0 := 1000, windowBase1 := 4400, windowBase2 := 8000 }

/-- The set that passes the worked commit (section 8.9, attempt 4). -/
def items : Items := { Items.reset with cam := Items.reset.cam.set .fi fiItems }

/-- In CONFIG, ready, with that set written. -/
def ready : State :=
  { State.reset with
    items := items
    link := { State.reset.link with
      ready := true, readyFrom := none, response := { State.reset.link.response with summary := some 0x10 } } }

/-- In RUN after that COMMIT, the tracker STOPPED, FI PARKED. -/
def running : State := ready.commit 0

/-- `s` with a request delivered. -/
def asked (s : State) (r : Request) (p : List Byte) : State :=
  { s with link := { s.link with busy := true, riseAt := some s.now, delivered := some ⟨r, p⟩ } }

/-- A tooth at a position of half 0, at the running speed of section 2.8. -/
def tooth (position : Nat) : Tooth := ⟨0, 2778, 2778, 2778, position, position * 240⟩

/-- In CRANK_SYNC at a position. -/
def cranked (position : Nat) : State := { running with tracker := ⟨.crankSync (tooth position), 8999⟩ }

/-- In ENGINE_SYNC at a position of a half. -/
def synced (half : Half) (position : Nat) : State :=
  { running with tracker :=
    ⟨.engineSync { tooth position with angle := half.angle + position * 240 }
      ⟨half, half.angle + position * 240, false, true, 1⟩, 8999⟩ }

/-- `s` with FI's blocks changed. -/
def withFi (s : State) (f : CamState → CamState) : State := s.setCam .fi (f (s.cam .fi))

/-- The state after an outcome that is one. -/
def after : Host.Outcome State Fault Refusal → Option State
  | .next u => some u
  | .fault _ | .refused _ => none

/-- FI RELEASING, its valve driven through a whole period, in ENGINE_SYNC. -/
def releasing : State :=
  withFi (synced .first 17) (fun k => { k with
    phaser := { k.phaser with state := .releasing }
    arbiter := { k.arbiter with target := 400, suppressed := false }
    channel := { k.channel with
      command := 900, output := .driven, duty := 1000, switchClosed := true, wholePeriod := true
      starting := true, openLoadRun := 4 } })

/-- FI in FAULT with cause STUCK. -/
def stuck : State :=
  withFi running (fun k => { k with
    phaser := { k.phaser with state := .fault, causes := ⟨false, false, false, true, false⟩ } })

/-- FI FORCED, PARKN low. -/
def forced : State :=
  { withFi running (fun k => { k with phaser := { k.phaser with state := .forced } }) with
    parkn := .low, parkLine := .asserted }

/-- FI as in `releasing`, told of an assertion of the park line that its sequencer has not taken. -/
def lagged : State :=
  { withFi releasing (fun k => { k with channel := { k.channel with
      output := .off, duty := 0, switchClosed := false, wholePeriod := false, starting := false, openLoadRun := 0 } }) with
    parkn := .low, parkLine := .asserted, told := ⟨true, false, false, false⟩, lagging := ⟨true, false, false, false⟩ }

/-- Held in reset by RSTN, PARKN high. -/
def held : State :=
  { State.reset with rstn := .low, link := { State.reset.link with readyFrom := none } }

theorem items_lawful : items.Lawful := by
  intro i
  cases i with
  | global i => cases i <;> decide
  | ofCam i c => cases c <;> cases i <;> decide

theorem sound_table (s : State) (h : s.table = List.replicate 32 .reset) : TableSound s ∧ OutcomesSound s := by
  have hx : ∀ x ∈ s.table, x.generation = 0 ∧ x.record = none := by
    intro x hx
    rw [h] at hx
    rw [List.eq_of_mem_replicate hx]
    exact ⟨rfl, rfl⟩
  refine ⟨⟨by rw [h, List.length_replicate], fun x m => ⟨by simp [hx x m], fun _ => (hx x m).2, ?_⟩⟩, ?_⟩
  · intro r hr; simp [(hx x m).2] at hr
  · intro x m r hr; simp [(hx x m).2] at hr

theorem sound_counters (s : State) (h : s.counters = .reset) : CountersSound s := by
  refine ⟨?_, by rw [h]; decide⟩
  intro k
  rw [h]
  cases k with
  | ofCam c k => cases c <;> cases k <;> decide
  | _ => decide

theorem sound_running : Sound running where
  items := items_lawful
  mode := by unfold ModeSound; decide
  tracker := ⟨by decide, by change running.tracker.speed = 0; decide⟩
  table := (sound_table running rfl).1
  outcomes := (sound_table running rfl).2
  cams := by
    intro c
    constructor
    · cases c <;> simp only [LaneSound] <;> decide
    · cases c <;> simp only [ArbiterSound] <;> decide
    · cases c <;> simp only [SequencerSound] <;> decide
    · cases c <;> simp only [LoopSound] <;> decide
    · cases c <;> simp only [CommandSound] <;> decide
    · cases c <;> simp only [ChannelSound] <;> decide
  parkLine := by change (running.parkLine = .asserted ↔ running.qualification.isSome = true); decide
  link := by
    unfold LinkSound
    refine ⟨?_, ?_, ?_, ?_, ?_, ?_, ?_, ?_, ?_, ?_, ?_⟩ <;> first | decide | trivial
  counters := sound_counters running rfl

theorem sound_releasing : Sound releasing where
  items := items_lawful
  mode := by unfold ModeSound; decide
  tracker := ⟨by decide, by
    change (_ ≤ _ ∧ _ ≤ _ ∧ _ ≤ _ ∧ _ ≤ _ ∧ _ ≤ _) ∧ _ = _ ∧ _ < _ ∧ _ ≤ _
    decide⟩
  table := (sound_table releasing rfl).1
  outcomes := (sound_table releasing rfl).2
  cams := by
    intro c
    constructor
    · cases c <;> simp only [LaneSound] <;> decide
    · cases c <;> simp only [ArbiterSound] <;> decide
    · cases c <;> simp only [SequencerSound] <;> decide
    · cases c <;> simp only [LoopSound] <;> decide
    · cases c <;> simp only [CommandSound] <;> decide
    · cases c <;> simp only [ChannelSound] <;> decide
  parkLine := by change (releasing.parkLine = .asserted ↔ releasing.qualification.isSome = true); decide
  link := by
    unfold LinkSound
    refine ⟨?_, ?_, ?_, ?_, ?_, ?_, ?_, ?_, ?_, ?_, ?_⟩ <;> first | decide | trivial
  counters := sound_counters releasing rfl

theorem sound_stuck : Sound stuck where
  items := items_lawful
  mode := by unfold ModeSound; decide
  tracker := ⟨by decide, by change stuck.tracker.speed = 0; decide⟩
  table := (sound_table stuck rfl).1
  outcomes := (sound_table stuck rfl).2
  cams := by
    intro c
    constructor
    · cases c <;> simp only [LaneSound] <;> decide
    · cases c <;> simp only [ArbiterSound] <;> decide
    · cases c <;> simp only [SequencerSound] <;> decide
    · cases c <;> simp only [LoopSound] <;> decide
    · cases c <;> simp only [CommandSound] <;> decide
    · cases c <;> simp only [ChannelSound] <;> decide
  parkLine := by change (stuck.parkLine = .asserted ↔ stuck.qualification.isSome = true); decide
  link := by
    unfold LinkSound
    refine ⟨?_, ?_, ?_, ?_, ?_, ?_, ?_, ?_, ?_, ?_, ?_⟩ <;> first | decide | trivial
  counters := sound_counters stuck rfl

/-- A sound state with a command waiting. -/
theorem sound_queued {s : State} (h : Sound s) (q : List Instr) : Sound { s with pending := q } :=
  ⟨h.items, h.mode, h.tracker, h.table, h.outcomes,
    fun c => ⟨(h.cams c).lane, (h.cams c).arbiter, (h.cams c).sequencer, (h.cams c).loop, (h.cams c).command,
      (h.cams c).channel⟩, h.parkLine, h.link, h.counters⟩

/-- A sound state in RUN to which a request is delivered. -/
theorem sound_asked {s : State} (h : Sound s) (hm : s.mode = .run) (ha : s.link.answer = none) (r : Request)
    (p : List Byte) (hp : p.length ≤ 40) : Sound (asked s r p) :=
  ⟨h.items, h.mode, h.tracker, h.table, h.outcomes,
    fun c => ⟨(h.cams c).lane, (h.cams c).arbiter, (h.cams c).sequencer, (h.cams c).loop, (h.cams c).command,
      (h.cams c).channel⟩, h.parkLine, by
    have hr : s.link.ready = true := (h.mode.2.1 hm).2.2.1
    have hl := h.link
    unfold LinkSound at hl ⊢
    simp only [asked] at *
    simp_all, h.counters⟩

theorem sound_forced : Sound forced where
  items := items_lawful
  mode := by unfold ModeSound; decide
  tracker := ⟨by decide, by change forced.tracker.speed = 0; decide⟩
  table := (sound_table forced rfl).1
  outcomes := (sound_table forced rfl).2
  cams := by
    intro c
    constructor
    · cases c <;> simp only [LaneSound] <;> decide
    · cases c <;> simp only [ArbiterSound] <;> decide
    · cases c <;> simp only [SequencerSound] <;> decide
    · cases c <;> simp only [LoopSound] <;> decide
    · cases c <;> simp only [CommandSound] <;> decide
    · cases c <;> simp only [ChannelSound] <;> decide
  parkLine := ⟨rfl, rfl⟩
  link := by
    unfold LinkSound
    refine ⟨?_, ?_, ?_, ?_, ?_, ?_, ?_, ?_, ?_, ?_, ?_⟩ <;> first | decide | trivial
  counters := sound_counters forced rfl

/-- FI was told of the assertion of the park line and has not taken it: RELEASING, its output held off. -/
theorem sound_lagged : Sound lagged where
  items := items_lawful
  mode := by unfold ModeSound; decide
  tracker := sound_releasing.tracker
  table := (sound_table lagged rfl).1
  outcomes := (sound_table lagged rfl).2
  cams := by
    intro c
    constructor
    · cases c <;> simp only [LaneSound] <;> decide
    · cases c <;> simp only [ArbiterSound] <;> decide
    · cases c <;> simp only [SequencerSound] <;> decide
    · cases c <;> simp only [LoopSound] <;> decide
    · cases c <;> simp only [CommandSound] <;> decide
    · cases c <;> simp only [ChannelSound] <;> decide
  parkLine := ⟨rfl, rfl⟩
  link := by
    unfold LinkSound
    refine ⟨?_, ?_, ?_, ?_, ?_, ?_, ?_, ?_, ?_, ?_, ?_⟩ <;> first | decide | trivial
  counters := sound_counters lagged rfl

/-- A sound state with the line RELEASED, whichever sequencers have yet to take an earlier assertion. -/
theorem sound_told {s : State} (h : Sound s) (hr : s.rstn = .high) (hl : s.parkLine = .released)
    (x y : PerCam Bool) : Sound { s with told := x, lagging := y } :=
  ⟨h.items, h.mode, h.tracker, h.table, h.outcomes,
    fun c => ⟨(h.cams c).lane, (h.cams c).arbiter, by
        obtain ⟨h1, h2, h3, -, h5⟩ := (h.cams c).sequencer
        exact ⟨h1, h2, h3, fun _ => .inl hl, h5⟩,
      (h.cams c).loop, (h.cams c).command, (h.cams c).channel⟩,
    by
      have hp := h.parkLine
      unfold ParkLineSound at *
      cases hp' : s.parkn <;> simp_all,
    h.link, h.counters⟩

/-- A sound state with its pins and its qualification changed. -/
theorem sound_pins {s : State} (h : Sound s) (l : Level) (q : Option Nat)
    (hp : ParkLineSound { s with parkn := l, qualification := q }) :
    Sound { s with parkn := l, qualification := q } :=
  ⟨h.items, h.mode, h.tracker, h.table, h.outcomes,
    fun c => ⟨(h.cams c).lane, (h.cams c).arbiter, (h.cams c).sequencer, (h.cams c).loop, (h.cams c).command,
      (h.cams c).channel⟩, hp, h.link, h.counters⟩

/-- The pin has risen: the release is being qualified from instant 0. -/
theorem sound_qualifying : Sound { forced with parkn := .high, qualification := some 0 } :=
  sound_pins sound_forced .high (some 0) ⟨fun _ => rfl, fun _ => rfl⟩

theorem sound_held : Sound held where
  items := by
    intro i
    cases i with
    | global i => cases i <;> decide
    | ofCam i c => cases c <;> cases i <;> decide
  mode := by unfold ModeSound; decide
  tracker := ⟨by decide, by change held.tracker.speed = 0; decide⟩
  table := (sound_table held rfl).1
  outcomes := (sound_table held rfl).2
  cams := by
    intro c
    constructor
    · cases c <;> simp only [LaneSound] <;> decide
    · cases c <;> simp only [ArbiterSound] <;> decide
    · cases c <;> simp only [SequencerSound] <;> decide
    · cases c <;> simp only [LoopSound] <;> decide
    · cases c <;> simp only [CommandSound] <;> decide
    · cases c <;> simp only [ChannelSound] <;> decide
  parkLine := ⟨rfl, rfl⟩
  link := by
    unfold LinkSound
    refine ⟨?_, ?_, ?_, ?_, ?_, ?_, ?_, ?_, ?_, ?_, ?_⟩ <;> first | decide | trivial
  counters := sound_counters held rfl

/-! ## The machine -/

theorem witness_StepKeepsSound :
    Sound { releasing with pending := [.windowClose .fi 1 1000] } ∧
    ∃ u, step { releasing with pending := [.windowClose .fi 1 1000] } = .next u :=
  ⟨sound_queued sound_releasing _, _, rfl⟩

theorem witness_SoundStepNeverStops : Sound { stuck with pending := [.stall 0] } :=
  sound_queued sound_stuck _

/-- Windows at both candidates of one edge: the case R15 says does not arise in RUN. -/
theorem test_both_candidates_fault :
    (after (exec (.camEdge .fi .rising 406)
      (withFi (cranked 4) (fun k => { k with lane := { k.lane with
        windows := [buildWindow fiItems 1000, buildWindow fiItems 6760] } })))).isNone = true := by
  decide

/-! ## Crank tracker -/

theorem witness_FirstToothStartsSearch :
    (ready.now ≤ 0 ∧ ready.mode = .config) ∧ (running.now ≤ 0 ∧ Edge.falling ≠ running.items.global.crankEdge) ∧
    (running.now ≤ 0 ∧ running.mode = .run ∧ Edge.rising = running.items.global.crankEdge ∧
      running.tracker.sync = .stopped) := by decide

/-- R3: floor(2,778 / 4) is 694; 693 ticks after a tooth is noise, 694 is not. -/
theorem witness_NoiseIsRejected :
    (cranked 4).now ≤ 693 ∧ (cranked 4).mode = .run ∧ Edge.rising = (cranked 4).items.global.crankEdge ∧
    (cranked 4).tracker.sync.Noise 693 ∧ ¬ (cranked 4).tracker.sync.Noise 694 := by
  simp only [Sync.noise_iff]
  decide

/-- The search of the worked start-up before its gap (section 1.9). -/
def seeking : State := { running with tracker := ⟨.seeking ⟨250000, 2, some 78000, some 78000, some 82000⟩, 0⟩ }

/-- Section 1.9: the tooth at 472,000 ends the gap, with T_p 74,000 and speed 337. -/
theorem test_gap_enters_crank_sync :
    (after (exec (.crkEdge .rising 472000) seeking)).map State.tracker =
      some ⟨.crankSync ⟨472000, 222000, 74000, 78000, 0, 0⟩, 337⟩ := by decide

/-- R5 at its boundary: with two missing teeth a period of 156,000 is long against 78,000, 155,999 is not;
and the first period of a search. -/
theorem witness_GapEntersCrankSync :
    seeking.now ≤ 405999 ∧ seeking.mode = .run ∧
    ¬ seeking.tracker.sync.Noise 406000 ∧ 2 * 78000 ≤ max 1 (min (406000 - 250000) 16777215) ∧
    ¬ seeking.tracker.sync.Noise 405999 ∧ ¬ 2 * 78000 ≤ max 1 (min (405999 - 250000) 16777215) ∧
    ¬ ({ running with tracker := ⟨.seeking ⟨0, 0, none, none, none⟩, 0⟩ } : State).tracker.sync.Noise 1 := by
  simp only [Sync.noise_iff]
  decide

/-- A tooth where none is missing, and the gap's where it is due. -/
theorem witness_CrankSyncToothIsTaken :
    (cranked 4).mode = .run ∧ ¬ (cranked 4).tracker.sync.Noise 2778 ∧ ¬ (cranked 21).tracker.sync.Noise 8334 ∧
    longPeriod 2 (toothPeriod 0 2778) 2778 = false ∧ longPeriod 2 (toothPeriod 0 8334) 2778 = true := by
  simp only [Sync.noise_iff]
  decide

/-- Section 1.9: the gap of half 0 ends at angle 5,760, with T_p 58,666 and speed 426, and no mark. -/
theorem test_gap_of_half_0 :
    (after (exec (.crkEdge .rising 2076000)
        { running with tracker :=
          ⟨.engineSync ⟨1900000, 60000, 60000, 60000, 21, 5040⟩ ⟨.first, 5040, true, false, 0⟩, 416⟩ })).map
      (fun u => (u.tracker, u.counters.cycles)) =
      some (⟨.engineSync ⟨2076000, 176000, 58666, 60000, 0, 5760⟩ ⟨.second, 5760, true, false, 0⟩, 426⟩, 0) := by
  decide

/-- Section 1.11: the second mismatched cycle loses phase. -/
theorem test_second_mismatch_loses_phase :
    (after (exec (.crkEdge .rising 8334) (synced .second 21))).map
      (fun u => (u.tracker.sync, u.counters.cycles, u.counters.phaseLosses, u.noticeSet .syncLost)) =
      some (.crankSync ⟨8334, 8334, 2778, 2778, 0, 0⟩, 1, 1, true) := by decide

/-- The tooth at 4,560 closes window 1 at 4,465: a miss, and with three before it the SIGNAL fault (R37). -/
theorem test_tooth_closes_a_window :
    [0, 3].map (fun n => (after (exec (.crkEdge .rising 2778)
      (withFi (synced .first 18) (fun k => { k with lane := { k.lane with missRun := n, valid := true } })))).map
      (fun u => ((u.cam .fi).lane.missRun, (u.cam .fi).lane.valid, (u.cam .fi).phaser.state,
        (u.counters.cam.get .fi).missed))) =
      [some (1, true, .parked, 1), some (4, false, .fault, 1)] := by decide

/-- R110: a cam in FAULT for STUCK keeps that cause when its fourth miss reports SIGNAL, and the report counts. -/
theorem test_signal_in_fault_is_added :
    (after (exec (.windowClose .fi 1 1679)
      (withFi (synced .first 18) (fun k => { k with
        lane := { k.lane with missRun := 3 }
        phaser := { k.phaser with state := .fault, causes := ⟨false, false, false, true, false⟩ } })))).map
      (fun u => ((u.cam .fi).phaser.state, (u.cam .fi).phaser.causes, (u.counters.cam.get .fi).faults)) =
      some (.fault, ⟨true, false, false, true, false⟩, 1) := by decide

/-- The cycle mark of a tooth reaches a RELEASING cam (R11, R96): its release count rises. -/
theorem test_mark_reaches_the_sequencer :
    (after (exec (.crkEdge .rising 8334)
      { withFi (synced .second 21) (fun k => { k with phaser := { k.phaser with state := .releasing } }) with
        tracker := ⟨.engineSync { tooth 21 with angle := 10800 } ⟨.second, 10800, true, false, 0⟩, 8999⟩ })).map
      (fun u => (u.cam .fi).phaser.releaseCount) = some 1 := by decide

theorem witness_EngineSyncToothIsTaken :
    ((synced .first 18).enabled .fi = true ∧ ((synced .first 18).cam .fi).lane.windows.length ≤ 4 ∧
      ((synced .first 18).cam .fi).lane.windows.countP
        (fun w => !w.passed && covers 4320 4560 w.closeAngle && !w.hit && !w.late) = 1) ∧
    (synced .second 21).mode = .run ∧ ¬ (synced .second 21).tracker.sync.Noise 8334 ∧
    ¬ (synced .first 5).tracker.sync.Noise 2778 ∧
    longPeriod 2 (toothPeriod 0 2778) 2778 = false ∧ longPeriod 2 (toothPeriod 0 8334) 2778 = true := by
  simp only [Sync.noise_iff]
  decide

/-- The gap due and not found, and found where it is not due. -/
theorem witness_GapErrorRestartsSearch :
    ¬ (cranked 21).tracker.sync.Noise 5555 ∧ ¬ (longPeriod 2 (toothPeriod 0 5555) 2778 = true ↔ 21 = 24 - 2 - 1) ∧
    ¬ (synced .first 20).tracker.sync.Noise 5556 ∧
    ¬ (longPeriod 2 (toothPeriod 0 5556) 2778 = true ↔ 20 = 24 - 2 - 1) := by
  simp only [Sync.noise_iff]
  decide

theorem witness_CyclesCountMarks :
    ∃ u, exec (.crkEdge .rising 8334) (synced .second 21) = .next u ∧
      u.counters.cycles ≠ (synced .second 21).counters.cycles :=
  ⟨_, rfl, by decide⟩

/-- Section 1.10: 5,403, 5,758 and, held, 5,759. -/
theorem test_clock_holds :
    [100000, 197700, 200000].map (clockAt .reset ⟨0, 66000, 66000, 66000, 21, 5040⟩ 11520) =
      [5403, 5758, 5759] := by decide

/-- At its own instant a tooth's angle, with a pitch period of 0 too: N = 24, position 4 (R13, R14). -/
theorem test_clock_at_the_tooth : clockAt .reset { tooth 4 with pitch := 0 } 5760 0 = 960 := by decide

theorem witness_AngleClockHolds :
    GlobalItems.reset.teeth ∈ [12, 24, 36, 48, 60] ∧ GlobalItems.reset.missing ∈ [1, 2] ∧
    (tooth 21).position ≤ 24 - 2 - 1 ∧ (tooth 21).pitch ≠ 0 ∧
    (tooth 21).angle = (tooth 21).position * (5760 / GlobalItems.reset.teeth) := by decide

/-- STALL_MS is 200: 2,000,000 ticks. -/
theorem witness_StallStopsTheTracker :
    (synced .first 4).tracker.sync.lastTooth = some 0 ∧ (cranked 4).tracker.sync.lastTooth = some 0 ∧
    seeking.tracker.sync.lastTooth = some 250000 ∧ running.tracker.sync.lastTooth = none ∧
    1999999 < 0 + running.items.global.stallMs * 10000 ∧
    0 + running.items.global.stallMs * 10000 ≤ 2000000 := by decide

theorem witness_SyncLossParksEveryCam :
    Sound releasing ∧ releasing.tracker.sync.isEngine = true ∧ releasing.enabled .fi = true ∧
    ∃ u, exec (.stall 2000000) releasing = .next u ∧ u.tracker.sync.isEngine = false :=
  ⟨sound_releasing, rfl, rfl, _, rfl, by decide⟩

/-! ## Cam measurement -/

theorem witness_EdgeWithoutAngleIsDisregarded :
    running.enabled .fe = false ∧ Edge.falling ≠ (running.cfg .fi).edge ∧ running.tracker.sync = .stopped ∧
    seeking.tracker.sync = .seeking ⟨250000, 2, some 78000, some 78000, some 82000⟩ ∧
    (cranked 4).tracker.sync = .crankSync (tooth 4) ∧ Cam.fe ≠ (cranked 4).items.global.referenceCam := by decide

/-- Section 1.9: the angles 995 and 6,755; and R15 the other way, 2,240 and 8,000; and neither. -/
theorem witness_ReferenceEdgeResolvesPhase :
    (cranked 4).enabled .fi = true ∧ Cam.fi = (cranked 4).items.global.referenceCam ∧
    (clockAt .reset (tooth 4) 5760 406 = 995 ∧ windowAt (buildWindows fiItems) 995 = some 0 ∧
      windowAt (buildWindows fiItems) 6755 = none) ∧
    (clockAt .reset (tooth 9) 5760 926 = 2240 ∧ windowAt (buildWindows fiItems) 2240 = none ∧
      windowAt (buildWindows fiItems) 8000 = some 2) ∧
    (clockAt .reset (tooth 12) 5760 0 = 2880 ∧ windowAt (buildWindows fiItems) 2880 = none ∧
      windowAt (buildWindows fiItems) 8640 = none) := by decide

/-- The edge at 995 gains sync in half 0: window 0 is hit and marked late, and the arbiter of its cam arbitrates
(R16, R31, R35). -/
theorem test_resolving_edge_is_an_update_point :
    (after (exec (.camEdge .fi .rising 406) (cranked 4))).map
      (fun u => ((u.cam .fi).lane.windows.map (fun w => (w.hit, w.late)), (u.cam .fi).lane.d,
        (u.cam .fi).arbiter.speedUsed, (u.cam .fi).arbiter.winner)) =
      some ([(true, true), (false, false), (false, false)], 5, 8999, .default) := by decide

/-- Section 2.8: the edge 1,000 ticks after the tooth at 4,080 measures 240 in window 1 with L = −6. -/
theorem test_worked_measurement :
    (after (exec (.camEdge .fi .rising 1000)
      (withFi (synced .first 17) (fun k => { k with lane := { k.lane with offset := -6 } })))).map
      (fun u => ((u.cam .fi).lane.d, (u.cam .fi).lane.dWindow, (u.counters.cam.get .fi).edges)) =
      some (240, 1, 1) := by decide

theorem witness_EdgeIsMeasured :
    (synced .first 17).enabled .fi = true ∧
    (let y : Cycle := ⟨.first, 4080, false, true, 1⟩
     edgeAngle .reset (buildWindows fiItems) (tooth 17) y 1000 = 4166 ∧
       windowAt (buildWindows fiItems) 4166 = some 1) ∧
    (let y : Cycle := ⟨.first, 960, false, true, 1⟩
     edgeAngle .reset (buildWindows fiItems) (tooth 4) y 406 = 995 ∧
       windowAt (buildWindows fiItems) 995 = some 0) := by
  decide

/-- R38: at 1,679 ticks after the tooth at 4,320 the clock's motion closes window 1. An edge taken first on that
tick is measured, and the close that follows counts no miss; taken after the close, it is STRAY. -/
theorem test_edge_on_the_closing_tick :
    (let y : Cycle := ⟨.first, 4320, false, true, 1⟩
     edgeAngle .reset (buildWindows fiItems) (tooth 18) y 1679 = 4464) ∧
    (((after (exec (.camEdge .fi .rising 1679) (synced .first 18))).bind
      (fun u => after (exec (.windowClose .fi 1 1679) u))).map (fun u => u.counters.cam.get .fi) =
      some ⟨1, 0, 0, 0, 0⟩) ∧
    (((after (exec (.windowClose .fi 1 1679) (synced .first 18))).bind
      (fun u => after (exec (.camEdge .fi .rising 1679) u))).map (fun u => u.counters.cam.get .fi) =
      some ⟨0, 1, 1, 0, 0⟩) := by decide

/-- A second edge in window 1; an edge at 2,880, in no window; and one at 6,760, in window 0 shifted. -/
theorem witness_StrayEdgesAreCounted :
    (synced .first 17).enabled .fi = true ∧ windowAt (buildWindows fiItems) 4166 = some 1 ∧
    (let y : Cycle := ⟨.first, 4080, false, true, 1⟩
     edgeAngle .reset (buildWindows fiItems) (tooth 17) y 1000 = 4166) ∧
    (let y : Cycle := ⟨.first, 2880, false, true, 1⟩
     edgeAngle .reset (buildWindows fiItems) (tooth 12) y 0 = 2880) ∧
    windowAt (buildWindows fiItems) 2880 = none ∧ windowAt (buildWindows fiItems) ((2880 + 5760) % 11520) = none ∧
    windowAt (buildWindows fiItems) 6760 = none ∧
    (windowAt (buildWindows fiItems) ((6760 + 5760) % 11520)).isSome = true := by decide

/-- R25: the window of RE with base 11,500 starts at 11,436; 300 lies in it and 900 does not. -/
theorem test_window_across_angle_0 :
    (buildWindow (CamItems.reset .retard) 11500).start = 11436 ∧
    (buildWindow (CamItems.reset .retard) 11500).contains 300 = true ∧
    (buildWindow (CamItems.reset .retard) 11500).contains 900 = false := by decide

theorem witness_WindowHoldsItsRange :
    (buildWindow (CamItems.reset .retard) 11500).start < 11520 ∧
    1 ≤ (buildWindow (CamItems.reset .retard) 11500).width ∧
    (buildWindow (CamItems.reset .retard) 11500).width ≤ 1601 ∧ (0 : Nat) < 11520 := by decide

/-- An ADVANCE window at its start and within, and a RETARD one. -/
theorem witness_DisplacementLiesInTravel :
    fiItems.travel ≤ 1280 ∧ fiItems.margin ≤ 160 ∧ (buildWindow fiItems 4400).contains 3536 = true ∧
    (buildWindow fiItems 4400).start = 3536 ∧ (buildWindow fiItems 4400).contains 4464 = true ∧
    (buildWindow (CamItems.reset .retard) 11500).contains 11436 = true := by decide

/-- Window 1 closes at 4,465: 145 au after the tooth at 4,320, reached at 1,679 ticks; with a hit, with a
miss, and with the miss that brings the run to 4. -/
theorem witness_WindowCloseTestsThePass :
    (synced .first 18).enabled .fi = true ∧ (buildWindow fiItems 4400).passed = false ∧
    clockAt .reset (tooth 18) 11520 1678 = 4464 ∧ covers 4320 4464 (buildWindow fiItems 4400).closeAngle = false ∧
    clockAt .reset (tooth 18) 11520 1679 = 4465 ∧ covers 4320 4465 (buildWindow fiItems 4400).closeAngle = true ∧
    angleSub 4320 4320 ≤ angleSub 4465 4320 ∧ 0 + 1 ≠ fiItems.missLimit ∧ 3 + 1 = fiItems.missLimit := by
  decide

/-! ## Demand table -/

/-- Record A of section 3.10, for FI alone: owner 1, BLEND, weight 3, target 320, lifetime 0. -/
def formA : PostForm := ⟨1, 1, 0x01, 3, 320, 0, 0, 0x00, none, none⟩

/-- Record B of section 3.10, for FI alone: owner 4, OVERRIDE, priority 9, target 600, lifetime 4, band and
cap. -/
def formB : PostForm := ⟨4, 0, 0x01, 9, 600, 0, 4, 0x03, some (6000, 12000), some 12⟩

/-- `running` with record A in slot 0 of generation 0 and record B in slot 1 of generation 1. -/
def posted : State :=
  { running with table :=
    ⟨0, some (formA.record .blend)⟩ :: ⟨1, some (formB.record .override)⟩ :: List.replicate 30 .reset }

/-- `running` with every slot occupied. -/
def full : State := { running with table := List.replicate 32 ⟨0, some (formA.record .blend)⟩ }

/-- What a request at a state answers: its result and its payload. -/
def answerOf (i : Instr) (s : State) : Option (Result × List Byte) :=
  match (after (exec i s)).bind (fun u => u.link.answer) with
  | some (.response _ result payload) => some (result, payload)
  | _ => none

/-- Section 3.10: the handle of step 1 is 0, and a BLEND of weight 0 is refused. -/
theorem test_post :
    answerOf .post (asked running .post formA.bytes) = some (.ok, [0]) ∧
    answerOf .post (asked running .post ({ formA with rank := 0 } : PostForm).bytes) = some (.badField, []) := by
  decide

theorem witness_PostCreatesTheRecord :
    (asked posted .post formB.bytes).delivers .post formB.bytes ∧ posted.mode = .run ∧ formB.LaidOut ∧
    ¬ formB.BadField posted ∧ posted.table[2]? = some .reset := by
  refine ⟨rfl, rfl, by unfold PostForm.LaidOut; decide, ?_, rfl⟩
  rintro (h | h | h | h | ⟨c, h1, h2⟩ | h | h | h | h | h | ⟨lo, hi, h1, h2⟩ | h | h | h)
  case inr.inr.inr.inr.inl =>
    cases c
    · exact absurd h2 (by decide)
    all_goals exact absurd h1 (by decide)
  case inr.inr.inr.inr.inr.inr.inr.inr.inr.inr.inl =>
    simp only [formB, Option.some.injEq, Prod.mk.injEq] at h1
    omega
  all_goals exact absurd h (by decide)

/-- Weight 0; a payload of nine bytes; a full table. -/
theorem witness_PostIsRefused :
    ({ formA with rank := 0 } : PostForm).LaidOut ∧ ({ formA with rank := 0 } : PostForm).BadField running ∧
    (formA.bytes.take 9)[9]? = none ∧ formA.LaidOut ∧ (∀ x ∈ full.table, x.record.isSome = true) ∧
    (asked full .post formA.bytes).delivers .post formA.bytes := by
  refine ⟨by unfold PostForm.LaidOut; decide, ?_, rfl, by unfold PostForm.LaidOut; decide, by decide, rfl⟩
  exact .inr (.inr (.inr (.inr (.inr (.inr (.inl ⟨rfl, rfl⟩))))))

theorem witness_WrongModeIsRefused :
    (asked ready .post []).delivers .post [] ∧ ready.mode = .config ∧
    (asked running .configWrite []).delivers .configWrite [] ∧
    (asked running .commit []).delivers .commit [] ∧ running.mode = .run := ⟨rfl, rfl, rfl, rfl, rfl⟩

/-- A short request, a full table, and a COMMIT of a set with no cam enabled (detail 1, no cam). -/
theorem witness_RefusalChangesNothing :
    answerOf .learn (asked running .learn []) = some (.badLength, []) ∧
    answerOf .post (asked full .post formA.bytes) = some (.tableFull, []) ∧
    answerOf (.commit 0) (asked { ready with items := .reset } .commit []) =
      some (.configInvalid, [0x01, 0xFF]) := by decide

/-- A new lifetime for record B, whose cap is removed; and a rank above 15. -/
theorem witness_AmendChangesTheRecord :
    posted.live 33 (formB.record .override) ∧ u8 33 = 33 ∧
    (⟨33, 0x44, none, none, some 9, none, none⟩ : AmendForm).LaidOut ∧
    ¬ (⟨33, 0x44, none, none, some 9, none, none⟩ : AmendForm).BadField .override ∧
    (⟨33, 0x44, none, none, some 9, none, none⟩ : AmendForm).Changes (formB.record .override)
      { formB.record .override with lifetime := 9, remaining := 9, cap := none } ∧
    (⟨33, 0x02, none, some 16, none, none, none⟩ : AmendForm).LaidOut ∧
    (⟨33, 0x02, none, some 16, none, none, none⟩ : AmendForm).BadField .override := by
  refine ⟨by unfold State.live; decide, by decide, by unfold AmendForm.LaidOut; decide, ?_,
    by unfold AmendForm.Changes; decide, by unfold AmendForm.LaidOut; decide,
    .inr (.inr (.inr (.inr (.inl ⟨16, rfl, .inl (by decide)⟩))))⟩
  rintro (h | h | h | ⟨a, b, h, _⟩ | ⟨n, h, _⟩ | ⟨a, b, h, _⟩ | h | h)
  case inr.inr.inr.inl => simp at h
  case inr.inr.inr.inr.inl => simp at h
  case inr.inr.inr.inr.inr.inl => simp at h
  all_goals exact absurd h (by decide)

/-- R50, R53: the length before the handle, the handle before the fields. -/
theorem test_amend_is_refused :
    answerOf .amend (asked posted .amend [33, 0x44]) = some (.badLength, []) ∧
    answerOf .amend (asked posted .amend [1, 0x44, 9]) = some (.stale, []) ∧
    posted.stale 1 := by
  refine ⟨by decide, by decide, (State.stale_iff _ _).2 (by decide)⟩

/-- A live handle, a stale one, and eight of them; nine are too many. -/
theorem witness_RenewRestoresRemaining :
    posted.mode = .run ∧ (asked posted .renew [33, 1]).delivers .renew [33, 1] ∧
    posted.live 33 (formB.record .override) ∧ posted.stale 1 ∧ (List.replicate 8 (33 : Byte)).length ≤ 8 ∧
    8 < (List.replicate 9 (33 : Byte)).length := by
  refine ⟨rfl, rfl, by unfold State.live; decide, (State.stale_iff _ _).2 (by decide), by decide, by decide⟩

/-- Section 3.10, steps 4 and 6: handle 33 is retired, and handle 1 is stale. -/
theorem witness_RetireFreesTheSlot :
    answerOf .retire (asked posted .retire [33]) = some (.ok, []) ∧
    answerOf .retire (asked posted .retire [1]) = some (.stale, []) ∧
    answerOf .retire (asked posted .retire []) = some (.badLength, []) := by decide

/-- Section 3.10, step 9: owner 4 has one record; owner 15 is lawful and 16 is not. -/
theorem witness_RetireOwnerFreesItsRecords :
    answerOf .retireOwner (asked posted .retireOwner [4]) = some (.ok, [1]) ∧
    answerOf .retireOwner (asked posted .retireOwner [15]) = some (.ok, [0]) ∧
    answerOf .retireOwner (asked posted .retireOwner [16]) = some (.badField, []) := by decide

/-- Section 3.10: the SCAN of step 8 without record C, and the QUERY of handle 33. -/
theorem witness_QueryAndScanReport :
    posted.table.length = 32 ∧
    answerOf .scan (asked posted .scan [0xFF]) = some (.ok, [2, 0, 33]) ∧
    answerOf .scan (asked posted .scan [15]) = some (.ok, [0]) ∧
    answerOf .scan (asked posted .scan [16]) = some (.badField, []) ∧
    answerOf .query (asked posted .query [33]) =
      some (.ok, [33, 4, 0, 0x01, 9, 0x02, 0x58, 0, 0, 4, 4, 0x03, 0x17, 0x70, 0x2E, 0xE0, 12, 0]) ∧
    answerOf .query (asked posted .query [2]) = some (.stale, []) ∧
    answerOf .query (asked posted .query []) = some (.badLength, []) ∧
    answerOf .scan (asked posted .scan [0, 0]) = some (.badLength, []) := by decide

/-- A standing record, one that lapses and one that does not, at a cycle mark. -/
theorem witness_CycleMarkCountsLifetimes :
    ¬ (synced .second 21).tracker.sync.Noise 8334 ∧ longPeriod 2 (toothPeriod 0 8334) 2778 = true ∧
    (after (exec (.crkEdge .rising 8334)
      { synced .second 21 with table :=
        [⟨0, some (formA.record .blend)⟩, ⟨1, some (formB.record .override)⟩,
         ⟨7, some { formB.record .override with remaining := 1 }⟩] })).map
      (fun u => (u.table.map (fun x => (x.generation, x.record.map Record.remaining)),
        u.counters.lapsedDemands, u.noticeSet .demandLapsed)) =
      some ([(0, some 0), (1, some 3), (0, none)], 1, true) := by
  simp only [Sync.noise_iff]
  decide

/-- LINK_MS is 50: 500,000 ticks after the COMMIT. -/
theorem witness_LinkLossPurgesTheTable :
    running.link.timer = some 0 ∧ 499999 < 0 + running.items.global.linkMs * 10000 ∧
    0 + running.items.global.linkMs * 10000 ≤ 500000 := by decide

/-! ## Arbitration -/

/-- An entry of a class with a rank and its two values (section 4.11). -/
def entry (slot : Nat) (k : Machine.Class) (rank first second : Nat) (cap : Option Nat) : Entry :=
  ⟨slot, 0, { formA.record k with rank := rank, first := first, second := second, cap := cap }⟩

/-- P, Q, A, B, C and X of section 4.11. -/
def worked : List Entry :=
  [entry 0 .blend 3 320 0 none, entry 1 .blend 1 160 0 none, entry 2 .limit 5 0 250 none,
   entry 3 .limit 2 100 600 none, entry 4 .limit 7 300 700 none, entry 5 .override 6 900 0 (some 12)]

/-- Section 4.11: the blends alone, with A and B, with C too, and with X. -/
theorem test_worked_arbitration :
    [2, 4, 5, 6].map (fun n =>
      let p := plan fiItems (worked.take n)
      (p.base, p.target, p.floor, p.ceiling, p.used.isSome)) =
      [(280, 280, 0, 2047, false), (280, 250, 100, 250, false), (280, 300, 300, 700, true),
       (900, 700, 300, 700, false)] := by decide

/-- Section 4.11: the standings of A, B and C in the conflict, and of P, A, C and X under X. -/
theorem test_worked_standings :
    [2, 3, 4].map (fun i => ((plan fiItems (worked.take 5)).outcome i (worked.getD i (entry 0 .blend 0 0 0 none)).record).standing) =
      [.conflicted, .conflicted, .binding] ∧
    [0, 2, 4, 5].map (fun i => ((plan fiItems worked).outcome i (worked.getD i (entry 0 .blend 0 0 0 none)).record)) =
      [⟨.shadowed, false⟩, ⟨.shadowed, false⟩, ⟨.binding, false⟩, ⟨.winning, true⟩] := by decide

/-- An override, blends alone, and neither; and two overrides of one priority. -/
theorem witness_HighestOverrideWins :
    (plan fiItems worked).override = some (entry 5 .override 6 900 0 (some 12)) ∧
    (plan fiItems (worked ++ [entry 6 .override 6 400 0 none])).override =
      some (entry 5 .override 6 900 0 (some 12)) ∧
    (plan fiItems (worked.take 5)).override = none ∧ (plan fiItems []).override = none := by decide

/-- A half, rounded up: 100 and 101 of one weight give 101; and one blend alone. -/
theorem witness_BlendMeanRoundsHalvesUp :
    blendMean [entry 0 .blend 1 100 0 none, entry 1 .blend 1 101 0 none] = 101 ∧
    (∀ e ∈ [entry 0 .blend 1 100 0 none, entry 1 .blend 1 101 0 none],
      1 ≤ e.record.rank ∧ 100 ≤ e.record.first ∧ e.record.first ≤ 101) ∧
    blendMean [entry 0 .blend 15 2047 0 none] = 2047 := by decide

/-- No limit, limits that agree, and limits that conflict. -/
theorem witness_LimitsBoundTheTarget :
    (plan fiItems (worked.take 2)).applied = [] ∧
    ((plan fiItems (worked.take 4)).applied ≠ [] ∧ (plan fiItems (worked.take 4)).used = none) ∧
    (plan fiItems (worked.take 5)).used = some (entry 4 .limit 7 300 700 none) := by decide

/-- At 8,999 rpm record B wins for FI: E is 600, and the active slew the lesser of SLEW and its cap, 12. -/
theorem test_arbitrate :
    (let s : State := { synced .first 4 with table := posted.table }
     ((s.arbitrate .fi).cam .fi).arbiter = ⟨600, .handle 33, 1, 0, 2047, some 12, 8999, false⟩ ∧
       ((s.arbitrate .fi).cam .fi).arbiter.activeSlew fiItems = min fiItems.slew 12) := by decide

theorem witness_StandingsFollowTheClass :
    ¬ (synced .first 4).tracker.speed < (synced .first 4).items.global.suppressRpm ∧
    (synced .first 4).items.global.releaseRpm ≤ (synced .first 4).tracker.speed ∧
    posted.table.length = 32 ∧ posted.table[1]? = some ⟨1, some (formB.record .override)⟩ ∧
    (formB.record .override).cams.get .fi = true := by decide

/-- R74 at its boundaries: 1,199 and 1,200 rpm, 1,499 and 1,500. -/
theorem witness_LowSpeedSuppresses :
    running.items.global.suppressRpm < running.items.global.releaseRpm ∧
    [(1199, false), (1200, false), (1200, true), (1499, true), (1500, true)].map
      (fun x => suppression running.items.global x.1 x.2) = [true, false, true, true, false] := by decide

/-! ## Phaser sequencing -/

/-- FI PARKED, RELEASING or TRACKING with a target. -/
def inState (st : PhaserState) (target : Nat) : State :=
  withFi (synced .first 17) (fun k => { k with
    phaser := { k.phaser with state := st }
    arbiter := { k.arbiter with target := target, suppressed := false } })

/-- Section 5.11: release at E = 400, no unlock at d = 20, and the unlock at d = 41. -/
theorem test_worked_release :
    ((inState .parked 400).takeEvent .fi 0 4).cams.fi.phaser.state = .releasing ∧
    ((inState .parked 400).takeEvent .fi 0 4).cams.fi.channel.command = 900 ∧
    ((inState .releasing 400).takeEvent .fi 0 20).cams.fi.phaser.state = .releasing ∧
    ((withFi (inState .releasing 400) (fun k => { k with lane := { k.lane with d := 41, valid := true } })).takeEvent
      .fi 1 41).cams.fi.loop = ⟨41, 25600⟩ := by decide

/-- PARK_BAND 16 and UNLOCK_THRESHOLD 32, at and beyond each. -/
theorem witness_EventsReleaseAndUnlock :
    ((inState .parked 17).cam .fi).phaser.state = .parked ∧ ((inState .parked 17).cfg .fi).parkBand < 17 ∧
    ((inState .releasing 16).cam .fi).phaser.state = .releasing ∧ 16 ≤ ((inState .releasing 16).cfg .fi).parkBand ∧
    0 < fiItems.unlockThreshold ∧ (fiItems.unlockThreshold : Int) < 33 ∧ 32 ≤ (fiItems.unlockThreshold : Int) ∧
    (stuck.cam .fi).phaser.state ∈ [PhaserState.disabled, .forced, .fault] := by decide

/-- UNLOCK_CYCLES 3 and RELEASE_LIMIT 16; TRACK_ERR_LIMIT 160 and TRACK_ERR_CYCLES 8. -/
theorem witness_CycleMarkMovesTheSequencer :
    ((inState .releasing 400).cam .fi).phaser.state = .releasing ∧ 2 + 1 = fiItems.unlockCycles ∧
    1 + 1 ≠ fiItems.unlockCycles ∧ 15 + 1 = fiItems.releaseLimit ∧
    ((inState .tracking 400).cam .fi).phaser.state = .tracking ∧ fiItems.trackErrLimit ≠ 0 ∧
    closeErrorRun true true 7 = fiItems.trackErrCycles ∧ closeErrorRun true false 7 = 0 ∧
    closeErrorRun false true 2 = 2 := by decide

/-- Section 5.12: the means 6, −3 and 12. -/
theorem test_worked_learns : [44, -22, 96].map learnMean = [6, -3, 12] := by decide

/-- A LEARN on FI is taken in PARKED and ENGINE_SYNC alone; a seventh and an eighth sample, with a mean. -/
theorem witness_LearnTakesEightSamples :
    answerOf .learn (asked (synced .first 4) .learn [0]) = some (.ok, []) ∧
    answerOf .learn (asked running .learn [0]) = some (.notReady, []) ∧
    answerOf .learn (asked (withFi (synced .first 4) (fun k =>
      { k with phaser := { k.phaser with learning := true } })) .learn [0]) = some (.busy, []) ∧
    answerOf .learn (asked running .learn [4]) = some (.badField, []) ∧
    ((inState .parked 16).cam .fi).arbiter.target ≤ ((inState .parked 16).cfg .fi).parkBand ∧
    (6 < 7 ∧ (8 * 6 ≤ (38 : Int) + 6 + 4 ∧ (38 : Int) + 6 + 4 < 8 * 6 + 8)) := by decide

theorem witness_ClearFaultReleasesTheCam :
    Sound (asked stuck .clearFault [0]) ∧ (asked stuck .clearFault [0]).mode = .run ∧
    answerOf .clearFault (asked stuck .clearFault [0]) = some (.ok, []) ∧
    answerOf .clearFault (asked stuck .clearFault [1]) = some (.noEffect, []) ∧
    answerOf .clearFault (asked stuck .clearFault [4]) = some (.badField, []) :=
  ⟨sound_asked sound_stuck rfl rfl _ _ (by decide), rfl, by decide, by decide, by decide⟩

/-! ## Position control -/

/-- The items of the worked cases (sections 6.8 and 6.9). -/
def gains : CamItems := { fiItems with kp := 96, ki := 16 }

/-- Section 6.8: the five events. -/
theorem test_worked_updates :
    (Loop.update ⟨276, 2560⟩ gains 400 24 240, Loop.update ⟨300, 3520⟩ gains 400 24 265,
      Loop.update ⟨324, 4464⟩ gains 330 24 292, Loop.update ⟨330, 5072⟩ gains 330 24 318,
      Loop.update ⟨330, 5264⟩ gains 330 24 334) =
    ((⟨300, 3520⟩, 645), (⟨324, 4464⟩, 658), (⟨330, 5072⟩, 636), (⟨330, 5264⟩, 600), (⟨330, 5200⟩, 575)) := by
  decide

/-- Section 6.9: cases A to E, one for each row of R127's table. -/
theorem test_worked_saturation :
    (Loop.update ⟨300, 24000⟩ gains 300 24 50, Loop.update ⟨300, 24000⟩ gains 300 24 120,
      Loop.update ⟨300, -10000⟩ gains 300 24 600,
      Loop.update ⟨300, 25600⟩ { gains with imax := 800 } 300 24 302,
      Loop.update ⟨300, -3200⟩ { gains with holdCurrent := 0 } 300 24 295) =
    ((⟨300, 24000⟩, 1200), (⟨300, 25600⟩, 1170), (⟨300, -10000⟩, 0), (⟨300, 25568⟩, 800), (⟨300, -3120⟩, 0)) := by
  decide

/-- R121 at its boundary: a distance of 25 and of 24, up and down. -/
theorem witness_RampMovesTowardTheTarget :
    (24 : Int) < 25 - 0 ∧ (24 : Int) < 25 - 0 ∧ ((24 : Int) - 0).natAbs ≤ 24 ∧
    (Loop.update ⟨0, 0⟩ gains 25 24 0).1.ramped = 24 ∧ (Loop.update ⟨25, 0⟩ gains 0 24 0).1.ramped = 1 ∧
    (Loop.update ⟨0, 0⟩ gains 24 24 0).1.ramped = 24 := by decide

/-- A row of R127's table for each of cases A to E: u above, below and within the limits. -/
theorem witness_CommandSaturates :
    (1200 : Int) < rawCommand gains 25600 250 ∧ rawCommand gains 25600 200 = 1200 ∧
    rawCommand gains (-14800) (-300) < 0 ∧ (800 : Int) < rawCommand gains 25568 (-2) ∧
    rawCommand { gains with holdCurrent := 0 } (-3120) 5 < 0 ∧
    0 ≤ rawCommand gains 25600 180 ∧ rawCommand gains 25600 180 ≤ 1200 := by decide

/-- Section 6.10: the test passes once, and then a second time. -/
theorem witness_TrackingEventUpdatesTheLoop :
    ((inState .tracking 0).cam .fi).phaser.state = .tracking ∧
    (Loop.update ⟨6, 824⟩ fiItems 0 24 14) = (⟨0, 712⟩, 498) ∧ (Loop.update ⟨0, 712⟩ fiItems 0 24 9) = (⟨0, 640⟩, 501) ∧
    (0 = 0 ∧ (9 : Int) ≤ (fiItems.parkBand : Int)) ∧ 1 + 1 = 2 := by decide

/-! ## Valve drivers -/

/-- A quiet channel, and a driven one. -/
theorem witness_OutputFollowsTheCommand :
    (((running.cam .fi).channel.output = .driven) ↔
      0 < (running.cam .fi).channel.command ∧ ParkLine.released = .released ∧
        (running.cam .fi).channel.latch = .none) ∧
    (((releasing.cam .fi).channel.output = .driven) ↔
      0 < (releasing.cam .fi).channel.command ∧ ParkLine.released = .released ∧
        (releasing.cam .fi).channel.latch = .none) ∧
    (99 < 100 ∧ 99 ≠ (releasing.cam .fi).channel.command) := by decide

/-- R141: above 2,500 mA. -/
theorem witness_OvercurrentTrips :
    2500 ≤ 2500 ∧ 2500 < 2501 ∧ (releasing.cam .fi).channel.switchClosed = true ∧
    (releasing.cam .fi).channel.latch = .none ∧ (releasing.cam .fi).channel.output = .driven ∧
    (releasing.cam .fi).phaser.state ∈ [PhaserState.parked, .releasing, .tracking, .forced] := by decide

/-- R142: at 250 Hz an open load takes 5 periods; 4 × 224 is below 900 and 4 × 225 is not; a period is
40,000 ticks. -/
theorem witness_PeriodEndRegulates :
    Sound releasing ∧ releasing.timebase = some ⟨0, 0⟩ ∧
    (20 * releasing.items.global.pwmHz ≤ 1000 * 5 ∧ 1000 * 5 < 20 * releasing.items.global.pwmHz + 1000) ∧
    (39999 - 0) * releasing.items.global.pwmHz < (0 + 1) * 10000000 ∧
    (0 + 1) * 10000000 ≤ (40000 - 0) * releasing.items.global.pwmHz ∧
    ((releasing.cam .fi).channel.judge 224).openLoadRun = 5 ∧
    ((releasing.cam .fi).channel.judge 225).openLoadRun = 0 :=
  ⟨sound_releasing, rfl, by decide, by decide, by decide, by decide, by decide⟩

/-- A duty of 50 % at 250 Hz: 20,000 ticks. -/
theorem witness_DutyElapsedOpensTheSwitch :
    releasing.now ≤ 19999 ∧ releasing.timebase = some ⟨0, 0⟩ ∧ (releasing.cam .fi).channel.output = .driven ∧
    (releasing.cam .fi).channel.switchClosed = true ∧ 500 < 1000 ∧
    (0 * 1000 + 500) * 10000000 ≤ (20000 - 0) * releasing.items.global.pwmHz * 1000 ∧
    (19999 - 0) * releasing.items.global.pwmHz * 1000 < (0 * 1000 + 500) * 10000000 := by decide

/-- A released line, an asserted one with the pin low and with it high, a part held in reset, and a sequencer that
lags, with the line asserted and with it released. -/
theorem witness_ParkLineForcesAndReleases :
    (Sound releasing ∧ releasing.parkn = .high ∧ releasing.parkLine = .released) ∧
    (Sound forced ∧ forced.parkn = .low) ∧
    Sound { forced with parkn := .high, qualification := some 0 } ∧ 9999 < 0 + 10000 ∧ 0 + 10000 ≤ 10000 ∧
    (Sound held ∧ held.rstn = .low) ∧
    (Sound lagged ∧ lagged.parkn = .low ∧ lagged.told.get .fi = true ∧
      (lagged.cam .fi).phaser.state ∈ [PhaserState.parked, .releasing, .tracking]) ∧
    Sound { releasing with told := ⟨true, false, false, false⟩, lagging := ⟨true, false, false, false⟩ } :=
  ⟨⟨sound_releasing, rfl, rfl⟩, ⟨sound_forced, rfl⟩, sound_qualifying, by decide, by decide, ⟨sound_held, rfl⟩,
    ⟨sound_lagged, rfl, rfl, by decide⟩,
    sound_told sound_releasing rfl rfl _ _⟩

/-- `s` after an occasion to take an assertion that the cams named let pass. -/
def heard (lagging : PerCam Bool) (s : State) : State := ({ s with lagging := lagging } : State).takeUp

/-- `s` after the fall of PARKN at the channels, and the occasion of that step, which FI lets pass. -/
def assertedBehind (s : State) : State :=
  heard ⟨true, false, false, false⟩ ({ s with parkn := .low, qualification := none } : State).assertLine

/-- A step asserts the line and then is an occasion, whose draw is free. -/
theorem test_assertion_is_heard :
    exec .parkLineAssert releasing =
      .next ({ releasing with parkn := .low, qualification := none } : State).assertLine.drawLagging.takeUp := rfl

/-- R132 and R146: FI lags behind an assertion, its command of 900 held off; its sequencer takes the assertion
later, or after the line is RELEASED, when the channel is DRIVEN once more until it does. -/
theorem test_lagging_sequencer :
    (let view (u : State) := ((u.cam .fi).phaser.state, (u.cam .fi).channel.command, (u.cam .fi).channel.output)
     let released := ((after (exec (.parknRise 0) (assertedBehind releasing))).bind
       (fun u => after (exec (.parkLineRelease 10000) u)))
     view (assertedBehind releasing) = (.releasing, 900, .off) ∧
     view (heard (.const false) (assertedBehind releasing)) = (.forced, 0, .off) ∧
     released.map view = some (.releasing, 900, .driven) ∧
     released.map (fun u => view (heard (.const false) u)) = some (.parked, 0, .off)) := by decide

/-- R132: a measurement event between the two updates the loop, its command held off, and the sequencer's entry
to FORCED clears what it wrote. -/
theorem test_event_between_line_and_sequencer :
    (let s := (assertedBehind (withFi releasing (fun k => { k with
       phaser := { k.phaser with state := .tracking } }))).takeEvent .fi 1 40
     ((s.cam .fi).phaser.state, (s.cam .fi).loop, (s.cam .fi).channel.command, (s.cam .fi).channel.output) =
       (.tracking, ⟨24, -128⟩, 482, .off) ∧
     ((heard (.const false) s).cam .fi).loop = ⟨0, 0⟩ ∧
     ((heard (.const false) s).cam .fi).channel.command = 0) := by decide

/-! ## Configuration -/

/-- TRAVEL of FI at 1,280 and at 1,281; an item number that names none; and a read. -/
theorem witness_ConfigWriteReadsBack :
    (ItemRef.ofCam .travel .fi).Names 0x12 0x00 ∧ (ItemRef.ofCam .travel .fi).lawful 1280 = true ∧
    (ItemRef.ofCam .travel .fi).lawful 1281 = false ∧
    answerOf .configWrite (asked ready .configWrite [0x12, 0, 0x05, 0x00]) = some (.ok, []) ∧
    answerOf .configWrite (asked ready .configWrite [0x12, 0, 0x05, 0x01]) = some (.badField, []) ∧
    answerOf .configWrite (asked ready .configWrite [0x29, 0, 0, 0]) = some (.badField, []) ∧
    answerOf .configRead (asked running .configRead [0x17, 0]) = some (.ok, [0x11, 0x30]) :=
  ⟨⟨rfl, rfl⟩, by decide, by decide, by decide, by decide, by decide, by decide⟩

/-- Section 8.9: the four attempts. -/
theorem test_worked_commit :
    (let set (b1 b2 hold : Nat) : Items := { items with cam := items.cam.set .fi { fiItems with
         windowBase1 := b1, windowBase2 := b2, holdCurrent := hold } }
     [set 1900 6600 400, set 4400 6600 400, set 4400 8000 400, set 4400 8000 500].map Items.validate) =
      [some (4, some .fi), some (5, some .fi), some (8, some .fi), none] := by decide

/-- No cam enabled fails check 1; the worked set passes them all. -/
theorem witness_CommitChecksAndEntersRun :
    items.Lawful ∧ ready.mode = .config ∧ (asked ready .commit []).delivers .commit [] ∧
    (¬ Items.reset.Check 1 ∧ Items.reset.Reports 1 none) ∧ items.Check 1 ∧ items.Check 2 ∧ items.Check 6 ∧
    answerOf (.commit 0) (asked ready .commit []) = some (.ok, []) := by
  refine ⟨items_lawful, rfl, rfl, ⟨?_, rfl⟩, ⟨.fi, rfl⟩, rfl, (by decide : (1200 : Nat) < 1500), by decide⟩
  rintro ⟨c, h⟩
  cases c <;> exact absurd h (by decide)

theorem witness_ReopenReturnsToConfig :
    Sound (asked running .reopen []) ∧ (asked running .reopen []).delivers .reopen [] ∧
    running.tracker.sync = .stopped ∧
    answerOf .reopen (asked (synced .first 4) .reopen []) = some (.notReady, []) :=
  ⟨sound_asked sound_running rfl rfl _ _ (by decide), rfl, rfl, by decide⟩

/-! ## The control link -/

/-- By hand from R164: eight bits equal to the register's top bit shift it out to 0x00, and the byte 0x00
then leaves 0x00. -/
theorem test_crc_by_hand : crc8 [0xFF] = 0x00 ∧ crc8 [0xFF, 0x00] = 0x00 ∧ crc8 [0xFF, 0x01] = 0x2F := by decide

/-- R161: 0x41 most significant bit first, and three clocks that complete no byte. -/
theorem test_partial_byte_is_disregarded :
    assemble ([false, true, false, false, false, false, false, true] ++ [true, true, true]) = [0x41] := by decide

/-- A transaction before the ready flag is ignored; one while busy is LATE, shows its own response and counts
in LATE_FRAMES; one that is open shows the pending response (R161, R168). -/
theorem witness_transactions :
    (after (exec .csnFall State.reset)).map (fun u => (u.link.transaction, u.link.sdo)) = some (.ignored, none) ∧
    (after (exec .csnFall (asked running .nop []))).map (fun u => u.link.transaction) =
      some (.late ⟨0xFF, .late, some 0x11, []⟩) ∧
    ((after (exec .csnFall (asked running .nop []))).bind (fun u => after (exec (.csnRise [] 0) u))).map
      (fun u => (u.link.transaction, u.counters.lateFrames, u.link.busy)) = some (.idle, 1, true) ∧
    (after (exec .csnFall ready)).bind (fun u => u.link.sdo) = some ready.link.response := by decide

/-- A taken frame, an unknown CMD, LEN 41, a short frame, no byte at all, and a wrong CRC. -/
theorem witness_FramesAreJudged :
    judgeFrame (requestFrame 0x01 [] ++ [0xAA]) = .delivered .nop [] ∧
    judgeFrame (requestFrame 0x07 []) = .answered 0x07 .unknown none true ∧ (∀ r : Request, r.code ≠ 0x07) ∧
    judgeFrame [0x01, 41] = .answered 0x01 .badLength none false ∧
    judgeFrame [0x01, 40] = .answered 0xFF .frameError (some .frameErrors) false ∧
    judgeFrame [] = .answered 0xFF .frameError (some .frameErrors) false ∧
    judgeFrame [0x01, 0x00, 0x50] = .answered 0xFF .crcError (some .crcErrors) false ∧
    (after (exec .csnFall ready)).map (fun u => u.link.transaction) = some .opened := by
  refine ⟨judgeFrame_requestFrame 0x01 [] [0xAA] (by decide), judgeFrame_requestFrame 0x07 [] [] (by decide), ?_,
    by simp [judgeFrame], rfl, rfl, ?_, by decide⟩
  swap
  · have h₁ : crcByte 0xFF#8 0x01#8 = 0x6D#8 := by decide
    have h₂ : crcByte 0x6D#8 0x00#8 = 0x51#8 := by decide
    simp [judgeFrame, crc8, h₁, h₂]
  intro r
  cases r <;> decide

/-- Processing takes at most 200 ticks; a SOFT_RESET with and without a payload. -/
theorem witness_ProcessingFormsTheResponse :
    (asked running .nop []).link.busy = true ∧ (asked running .nop []).link.riseAt = some 0 ∧ 200 ≤ 0 + 200 ∧
    running.link.busy = false ∧ (asked running .softReset []).delivers .softReset [] ∧
    (after (exec .softReset (asked running .softReset []))).map (fun u => u.link.answer) = some (some .softReset) ∧
    answerOf .softReset (asked running .softReset [0]) = some (.badLength, []) :=
  ⟨rfl, rfl, by decide, rfl, rfl, by decide, by decide⟩

/-- RSTN high and low, and the 20,000 ticks of the ready delay. -/
theorem witness_ResetsRestoreEveryBlock :
    running.rstn = .high ∧ held.rstn = .low ∧ State.reset.link.readyFrom = some 0 ∧ 19999 < 0 + 20000 ∧
    (after (exec (.readyDelayExpiry 19999) State.reset)).map (fun u => u.link.ready) = some false ∧
    (after (exec (.readyDelayExpiry 20000) State.reset)).map (fun u => (u.link.ready, u.link.response.summary)) =
      some (true, some 0x10) := by decide

/-! ## Status, notices and counters -/

/-- The payloads of R182 at a state in RUN. -/
theorem witness_StatusRequestsReport :
    answerOf .nop (asked running .nop []) = some (.ok, []) ∧
    answerOf .engineStatus (asked (synced .first 4) .engineStatus []) =
      some (.ok, [1, 3, 0x23, 0x27, 0, 0, 0, 0, 0, 0x0F]) ∧
    (answerOf .camStatus (asked (withFi running (fun k => { k with
      channel := { k.channel with mean := .measured 642 } })) .camStatus [0])).map (fun x => x.2.length) = some 32 ∧
    answerOf .noticeRead (asked running .noticeRead []) = some (.ok, [0x00, 0x01]) ∧
    answerOf .noticeMask (asked running .noticeMask [0x12, 0x34]) = some (.ok, [0x12, 0x34]) ∧
    answerOf .countersRead (asked running .countersRead [5, 1]) = some (.ok, List.replicate 12 0) ∧
    answerOf .countersRead (asked running .countersRead [6, 0]) = some (.badField, []) ∧
    answerOf .countersRead (asked running .countersRead [0, 2]) = some (.badField, []) ∧
    answerOf .camStatus (asked running .camStatus []) = some (.badLength, []) ∧
    answerOf .camStatus (asked running .camStatus [4]) = some (.badField, []) ∧
    (running.cam .fi).channel.mean = .asSensed := by decide

/-- The RESET notice, set after a reset, is cleared by a NOTICE_READ. -/
theorem witness_NoticesLatch :
    ∃ u, exec .noticeRead (asked running .noticeRead []) = .next u ∧
      (asked running .noticeRead []).noticeSet .reset = true ∧ u.noticeSet .reset = false :=
  ⟨_, rfl, by decide, by decide⟩

/-- ATTN: RESET set and enabled; its mask bit off; and the part held in reset (R178). -/
theorem test_attn :
    ({ running with mask := 0x0001 } : State).attnLow = true ∧
    ({ running with mask := 0xFFFE } : State).attnLow = false ∧
    ({ held with mask := 0x0001 } : State).attnLow = false := by decide

theorem witness_OnlyTheirCommandsChange :
    ∃ u, exec (.overcurrent .fi 2501) releasing = .next u ∧ Cam.fe ≠ Cam.fi ∧
      (u.cam .fi).phaser.state = .fault :=
  ⟨_, rfl, by decide, by decide⟩

end Sys2Proof.Tests
end

/-! ## The acceptance test of a crank edge (R3) -/

namespace Sys2Proof.Machine

/-! ### What keeps the last accepted tooth and NOISE_REJECTS -/

/-- `u` has the last accepted tooth and the NOISE_REJECTS of `s`: what follows a tooth within its own step may move
the rest of the tracker, as a loss of phase does (R19). -/
structure KeepsTooth (s u : State) : Prop where
  lastTooth : u.tracker.sync.lastTooth = s.tracker.sync.lastTooth
  noiseRejects : u.counters.noiseRejects = s.counters.noiseRejects

theorem KeepsTooth.refl (s : State) : KeepsTooth s s := ⟨rfl, rfl⟩

theorem KeepsTooth.trans {s u v : State} (h : KeepsTooth s u) (k : KeepsTooth u v) : KeepsTooth s v :=
  ⟨k.lastTooth.trans h.lastTooth, k.noiseRejects.trans h.noiseRejects⟩

theorem State.setCam_keepsTooth (s : State) (c : Cam) (k : CamState) : KeepsTooth s (s.setCam c k) := ⟨rfl, rfl⟩

theorem State.setTable_keepsTooth (s : State) (t : List Slot) : KeepsTooth s { s with table := t } := ⟨rfl, rfl⟩

theorem State.notify_keepsTooth (s : State) (n : Notice) : KeepsTooth s (s.notify n) := ⟨rfl, rfl⟩

theorem State.count_keepsTooth (s : State) {k : Counter} (h : Counter.noiseRejects ≠ k) : KeepsTooth s (s.count k) :=
  ⟨rfl, Counters.get_put_ne s.counters h _⟩

theorem State.countTimes_keepsTooth (s : State) {k : Counter} (h : Counter.noiseRejects ≠ k) (n : Nat) :
    KeepsTooth s (s.countTimes k n) := by
  induction n generalizing s with
  | zero => exact .refl s
  | succ n ih => exact (s.count_keepsTooth h).trans (ih _)

theorem State.eachCam_keepsTooth (s : State) {f : Cam → State → State} (h : ∀ c u, KeepsTooth u (f c u)) :
    KeepsTooth s (s.eachCam f) := by
  rw [State.eachCam_eq]
  exact (((h .fi _).trans (h .fe _)).trans (h .ri _)).trans (h .re _)

/-! ### The cams' part of a tooth -/

theorem State.reportFault_keepsTooth (s : State) (c : Cam) (cause : Cause) :
    KeepsTooth s (s.reportFault c cause) := by
  cases h : s.enabled c with
  | false => rw [State.reportFault_of_disabled h]; exact .refl s
  | true =>
    have hne : Counter.noiseRejects ≠ .ofCam c .faults := nofun
    rw [State.reportFault_eq h, State.reported]
    split
    · exact ⟨rfl, Counters.get_put_ne s.counters hne _⟩
    · exact ⟨rfl, Counters.get_put_ne s.counters hne _⟩

theorem State.miss_keepsTooth (s : State) (c : Cam) : KeepsTooth s (s.miss c) := by
  have counted : KeepsTooth s (s.count (.ofCam c .missed)) := s.count_keepsTooth nofun
  unfold State.miss
  dsimp only
  split
  · split
    · exact (counted.trans (State.setCam_keepsTooth _ c _)).trans (State.reportFault_keepsTooth _ c _)
    · exact counted.trans (State.setCam_keepsTooth _ c _)
  · exact counted

theorem State.closeWindow_keepsTooth (s : State) (c : Cam) (j : Nat) : KeepsTooth s (s.closeWindow c j) := by
  unfold State.closeWindow
  dsimp only
  split
  · split
    · exact s.setCam_keepsTooth c _
    · exact (s.setCam_keepsTooth c _).trans (State.miss_keepsTooth _ c)
  · exact .refl s

theorem State.closeBy_keepsTooth (s : State) (old new : Nat) (c : Cam) (j : Nat) :
    KeepsTooth s (s.closeBy old new c j) := by
  unfold State.closeBy
  split
  · split
    · exact s.closeWindow_keepsTooth c j
    · exact .refl s
  · exact .refl s

theorem State.closeAll_keepsTooth (s : State) (old new : Nat) : KeepsTooth s (s.closeAll old new) :=
  s.eachCam_keepsTooth fun c u =>
    (((u.closeBy_keepsTooth old new c 0).trans (State.closeBy_keepsTooth _ old new c 1)).trans
      (State.closeBy_keepsTooth _ old new c 2)).trans (State.closeBy_keepsTooth _ old new c 3)

theorem State.newPitch_keepsTooth (s : State) : KeepsTooth s s.newPitch :=
  s.eachCam_keepsTooth fun c u => u.setCam_keepsTooth c _

theorem State.releaseMark_keepsTooth (s : State) (c : Cam) : KeepsTooth s (s.releaseMark c) := by
  unfold State.releaseMark
  dsimp only
  split
  · exact (s.setCam_keepsTooth c _).trans (State.setCam_keepsTooth _ c _)
  · split
    · exact (s.setCam_keepsTooth c _).trans (State.reportFault_keepsTooth _ c _)
    · exact s.setCam_keepsTooth c _

theorem State.trackMark_keepsTooth (s : State) (c : Cam) : KeepsTooth s (s.trackMark c) := by
  unfold State.trackMark
  dsimp only
  split
  · exact .refl s
  · split
    · exact (s.setCam_keepsTooth c _).trans (State.reportFault_keepsTooth _ c _)
    · exact s.setCam_keepsTooth c _

theorem State.cycleMark_keepsTooth (s : State) (c : Cam) : KeepsTooth s (s.cycleMark c) := by
  unfold State.cycleMark
  split
  · exact s.releaseMark_keepsTooth c
  · exact s.trackMark_keepsTooth c
  all_goals exact .refl s

/-! ### A loss of ENGINE_SYNC and a cycle mark -/

theorem State.abortLearn_keepsTooth (s : State) (c : Cam) : KeepsTooth s (s.abortLearn c) := by
  unfold State.abortLearn
  split
  · exact (s.setCam_keepsTooth c _).trans (State.notify_keepsTooth _ _)
  · exact .refl s

theorem State.parkOnLoss_keepsTooth (s : State) (c : Cam) : KeepsTooth s (s.parkOnLoss c) := by
  unfold State.parkOnLoss
  split
  · exact (s.abortLearn_keepsTooth c).trans
      ((State.setCam_keepsTooth _ c _).trans (State.setCam_keepsTooth _ c _))
  · exact .refl s

theorem State.clearOnLoss_keepsTooth (s : State) (c : Cam) : KeepsTooth s (s.clearOnLoss c) := by
  unfold State.clearOnLoss
  split
  · exact s.setCam_keepsTooth c _
  · exact .refl s

theorem State.loseCam_keepsTooth (c : Cam) (s : State) : KeepsTooth s (State.loseCam c s) :=
  ((s.setCam_keepsTooth c _).trans (State.parkOnLoss_keepsTooth _ c)).trans (State.clearOnLoss_keepsTooth _ c)

theorem State.loseSync_keepsTooth (s : State) : KeepsTooth s s.loseSync :=
  (s.eachCam_keepsTooth State.loseCam_keepsTooth).trans (State.setTable_keepsTooth _ _)

theorem State.countLifetimes_keepsTooth (s : State) : KeepsTooth s s.countLifetimes := by
  have counted : KeepsTooth s
      (({ s with table := s.table.map Slot.countDown }).countTimes .lapsedDemands (lapsing s.table)) :=
    (s.setTable_keepsTooth _).trans (State.countTimes_keepsTooth _ (k := .lapsedDemands) nofun _)
  unfold State.countLifetimes
  dsimp only
  split
  · exact counted
  · exact counted.trans (State.notify_keepsTooth _ _)

/-- The close of a cycle, also where it loses phase: CRANK_SYNC goes on from the same tooth (R19). -/
theorem State.closeCycle_keepsTooth (s : State) : KeepsTooth s s.closeCycle := by
  unfold State.closeCycle
  split
  next k y hs =>
    split
    · have counted := s.count_keepsTooth (k := .phaseLosses) nofun
      refine KeepsTooth.trans ⟨?_, ?_⟩ (State.loseSync_keepsTooth _)
      · rw [hs]; rfl
      · exact counted.noiseRejects
    · exact ⟨by rw [hs]; rfl, rfl⟩
  next => exact .refl s

theorem State.issueMark_keepsTooth (s : State) : KeepsTooth s s.issueMark :=
  have cycled : KeepsTooth s s.countCycle := ⟨rfl, rfl⟩
  ((cycled.trans (State.countLifetimes_keepsTooth _)).trans
    (State.eachCam_keepsTooth _ fun c u => u.cycleMark_keepsTooth c)).trans (State.closeCycle_keepsTooth _)

/-- What the clock's step at a tooth brings: closes, a new pitch and, where it is due, the cycle mark (R11, R17). -/
theorem State.clockStep_keepsTooth (s : State) (old new : Nat) (due : Prop) [Decidable due] :
    KeepsTooth s (if due then (s.closeAll old new).newPitch.issueMark else (s.closeAll old new).newPitch) := by
  have stepped : KeepsTooth s (s.closeAll old new).newPitch :=
    (s.closeAll_keepsTooth old new).trans (State.newPitch_keepsTooth _)
  split
  · exact stepped.trans (State.issueMark_keepsTooth _)
  · exact stepped

/-! ### An accepted tooth -/

/-- `u` is `s` with a tooth accepted at `t`: it is the last accepted tooth, and nothing was rejected. -/
structure TakesTooth (t : Nat) (s u : State) : Prop where
  lastTooth : u.tracker.sync.lastTooth = some t
  noiseRejects : u.counters.noiseRejects = s.counters.noiseRejects

theorem TakesTooth.trans_keeps {t : Nat} {s u v : State} (h : TakesTooth t s u) (k : KeepsTooth u v) :
    TakesTooth t s v :=
  ⟨k.lastTooth.trans h.lastTooth, k.noiseRejects.trans h.noiseRejects⟩

theorem State.setTracker_takesTooth (s : State) {y : Sync} {t : Nat} (h : y.lastTooth = some t) (v : Nat) :
    TakesTooth t s (s.setTracker y v) := ⟨h, rfl⟩

theorem State.seekTooth_takesTooth (s : State) (q : Search) (t : Nat) : TakesTooth t s (s.seekTooth q t) := by
  unfold State.seekTooth
  dsimp only
  split
  · split
    · exact s.setTracker_takesTooth rfl _
    · exact s.setTracker_takesTooth rfl _
  · exact s.setTracker_takesTooth rfl _

theorem State.gapError_takesTooth (s : State) (t : Nat) : TakesTooth t s (s.gapError t) :=
  ⟨rfl, (s.count_keepsTooth (k := .gapErrors) nofun).noiseRejects⟩

theorem State.crankTooth_takesTooth (s : State) (k : Tooth) (t : Nat) (gap : Bool) :
    TakesTooth t s (s.crankTooth k t gap) :=
  s.setTracker_takesTooth rfl _

theorem State.engineTooth_takesTooth (s : State) (k : Tooth) (y : Cycle) (t : Nat) (gap : Bool) :
    TakesTooth t s (s.engineTooth k y t gap) := by
  unfold State.engineTooth
  dsimp only
  refine TakesTooth.trans_keeps ?_ (State.clockStep_keepsTooth _ _ _ _)
  exact s.setTracker_takesTooth rfl _

/-! ### The test -/

/-- An edge of the set polarity in RUN reaches the tracker (R1, R2). -/
theorem exec_crkEdge_of_run {s : State} {edge : Edge} {t : Nat} (ht : s.now ≤ t) (hm : s.mode = .run)
    (he : edge = s.items.global.crankEdge) :
    exec (.crkEdge edge t) s = .next (({ s with now := t } : State).crankEdge t) := by
  change Host.Outcome.next _ = _
  rw [State.at_of_le ht, if_pos ⟨hm, he⟩]

/-- An edge that the test rejects is counted, and that is all (R3). -/
theorem State.crankEdge_of_noise {s : State} {t : Nat} (h : s.tracker.sync.noiseAt t = true) :
    s.crankEdge t = s.count .noiseRejects := by
  unfold State.crankEdge
  cases hs : s.tracker.sync with
  | stopped => simp [hs, Sync.noiseAt] at h
  | seeking q => rw [hs] at h; exact if_pos h
  | crankSync k => rw [hs] at h; exact if_pos h
  | engineSync k y => rw [hs] at h; exact if_pos h

/-- An edge that the test does not reject is a tooth in every sync state, a gap error's too (R3, R6 to R10). -/
theorem State.crankEdge_of_not_noise {s : State} {t : Nat} (h : ¬ s.tracker.sync.noiseAt t = true) :
    TakesTooth t s (s.crankEdge t) := by
  unfold State.crankEdge
  cases hs : s.tracker.sync with
  | stopped => exact ⟨rfl, rfl⟩
  | seeking q =>
    rw [hs, Sync.noiseAt] at h
    dsimp only
    rw [if_neg h]
    exact s.seekTooth_takesTooth q t
  | crankSync k =>
    rw [hs, Sync.noiseAt] at h
    dsimp only
    rw [if_neg h]
    split
    · exact s.crankTooth_takesTooth k t _
    · exact s.gapError_takesTooth t
  | engineSync k y =>
    rw [hs, Sync.noiseAt] at h
    dsimp only
    rw [if_neg h]
    split
    · exact s.engineTooth_takesTooth k y t _
    · exact (s.gapError_takesTooth t).trans_keeps (State.loseSync_keepsTooth _)

/-- Settles O7: R3's two conditions are the tracker's own test (`Sync.noise_iff`), and nothing that follows a
tooth within its step moves the last accepted tooth or NOISE_REJECTS. -/
theorem noiseIsRejected : Obligations.NoiseIsRejected := by
  intro edge t s ht hm he
  rw [exec_crkEdge_of_run ht hm he, Sync.noise_iff]
  constructor
  · intro h
    have rejected : ({ s with now := t } : State).crankEdge t = ({ s with now := t } : State).count .noiseRejects :=
      State.crankEdge_of_noise h
    exact congrArg Host.Outcome.next rejected
  · intro h
    have taken : TakesTooth t { s with now := t } (({ s with now := t } : State).crankEdge t) :=
      State.crankEdge_of_not_noise h
    exact ⟨_, rfl, taken.lastTooth, taken.noiseRejects⟩

end Sys2Proof.Machine

/-! ## RENEW, RETIRE and RETIRE_OWNER (R55 to R57) -/

namespace Sys2Proof.Machine

/-! ### A request in RUN, and the record a handle names -/

/-- A delivered request of RUN is answered as its owner replies. -/
theorem State.serve_inRun {s : State} {r : Request} {p : List Byte} (hm : s.mode = .run) (hd : s.delivers r p)
    (owner : State → List Byte → Reply) :
    s.serve r (inRun owner) = (owner s p).state.answered r (owner s p).result (owner s p).payload := by
  rw [State.serve_of_delivers hd, inRun, if_pos hm]

theorem exec_renew_of_run {s : State} {p : List Byte} (hm : s.mode = .run) (hd : s.delivers .renew p) :
    exec .renew s =
      .next ((ownRenew s p).state.answered .renew (ownRenew s p).result (ownRenew s p).payload) :=
  congrArg Host.Outcome.next (State.serve_inRun hm hd ownRenew)

theorem exec_retire_of_run {s : State} {p : List Byte} (hm : s.mode = .run) (hd : s.delivers .retire p) :
    exec .retire s =
      .next ((ownRetire s p).state.answered .retire (ownRetire s p).result (ownRetire s p).payload) :=
  congrArg Host.Outcome.next (State.serve_inRun hm hd ownRetire)

theorem exec_retireOwner_of_run {s : State} {p : List Byte} (hm : s.mode = .run) (hd : s.delivers .retireOwner p) :
    exec .retireOwner s =
      .next ((ownRetireOwner s p).state.answered .retireOwner (ownRetireOwner s p).result
        (ownRetireOwner s p).payload) :=
  congrArg Host.Outcome.next (State.serve_inRun hm hd ownRetireOwner)

/-! ### One handle of a RENEW -/

/-- The slot with its record, if it has one, renewed (R55). -/
def Slot.renewed (x : Slot) : Slot := { x with record := x.record.map Record.renewed }

@[simp] theorem Slot.renewed_generation (x : Slot) : x.renewed.generation = x.generation := rfl

@[simp] theorem Slot.renewed_record (x : Slot) : x.renewed.record = x.record.map Record.renewed := rfl

/-- A record that two handles of one RENEW name is renewed as by one of them. -/
@[simp] theorem Slot.renewed_renewed (x : Slot) : x.renewed.renewed = x.renewed := by
  obtain ⟨generation, record⟩ := x
  cases record <;> rfl

/-- One handle renews the slot of its own number if the generations agree, and a stale one nothing: a free
slot of that generation holds no record to renew. -/
theorem renewOne_table (t : List Slot) (h : Nat) :
    (renewOne t h).1 = t.modify (h % 32) (fun x => if x.generation = h / 32 then x.renewed else x) := by
  apply List.ext_getElem?
  intro i
  rw [List.getElem?_modify]
  unfold renewOne lookup
  by_cases hi : h % 32 = i
  · subst hi
    cases hx : t[h % 32]? with
    | none => simp [hx]
    | some x =>
      obtain ⟨generation, record⟩ := x
      by_cases hg : generation = h / 32
      · cases record <;> simp [hg, hx, putRecord, Slot.renewed]
      · simp [hg, hx]
  · split <;> simp [putRecord, hi]

/-- A change of one slot that keeps its generation and whether it is occupied makes no handle stale or live. -/
theorem lookup_modify_isSome {f : Slot → Slot} (hg : ∀ x, (f x).generation = x.generation)
    (hr : ∀ x, (f x).record.isSome = x.record.isSome) (t : List Slot) (i h : Nat) :
    (lookup (t.modify i f) h).isSome = (lookup t h).isSome := by
  unfold lookup
  rw [List.getElem?_modify]
  by_cases hi : i = h % 32
  · cases t[h % 32]? with
    | none => rfl
    | some x => by_cases hx : x.generation = h / 32 <;> simp [hi, hg, hr, hx]
  · simp [hi]

theorem renewOne_result (t : List Slot) (h : Nat) :
    (renewOne t h).2 = if (lookup t h).isSome then .ok else .stale := by
  unfold renewOne
  cases lookup t h <;> rfl

/-- No handle of a RENEW makes another stale or live. -/
theorem renewOne_result_after (t : List Slot) (a h : Nat) :
    (renewOne (renewOne t a).1 h).2 = (renewOne t h).2 := by
  rw [renewOne_result, renewOne_result, renewOne_table, lookup_modify_isSome]
  · intro x; split <;> rfl
  · intro x; split <;> simp

/-! ### The handles of a RENEW -/

/-- The slot of number `i` after a RENEW of the handles `hs`: renewed if one of them names it. -/
def Slot.renewedBy (i : Nat) (hs : List Byte) (x : Slot) : Slot :=
  if ∃ h ∈ hs, h.toNat % 32 = i ∧ h.toNat / 32 = x.generation then x.renewed else x

@[simp] theorem Slot.renewedBy_nil (i : Nat) (x : Slot) : x.renewedBy i [] = x := by
  simp [Slot.renewedBy]

/-- A RENEW's first handle renews, and then the rest. -/
theorem Slot.renewedBy_cons (i : Nat) (h : Byte) (rest : List Byte) (x : Slot) :
    x.renewedBy i (h :: rest) =
      (if h.toNat % 32 = i ∧ h.toNat / 32 = x.generation then x.renewed else x).renewedBy i rest := by
  by_cases hh : h.toNat % 32 = i ∧ h.toNat / 32 = x.generation
  · simp [Slot.renewedBy, hh]
  · simp [Slot.renewedBy, hh]

theorem renewAll_getElem? (t : List Slot) (p : List Byte) (i : Nat) :
    (renewAll t p).1[i]? = t[i]?.map (Slot.renewedBy i p) := by
  induction p generalizing t with
  | nil => cases hx : t[i]? <;> simp [renewAll, hx]
  | cons h rest ih =>
    rw [renewAll, ih, renewOne_table, List.getElem?_modify]
    cases t[i]? with
    | none => rfl
    | some x =>
      by_cases hi : h.toNat % 32 = i <;> simp [Slot.renewedBy_cons, hi, eq_comm]

theorem renewAll_length (t : List Slot) (p : List Byte) : (renewAll t p).1.length = t.length := by
  induction p generalizing t with
  | nil => rfl
  | cons h rest ih => rw [renewAll, ih, renewOne_table, List.length_modify]

/-- Each handle is answered as it would be alone, in request order (R55). -/
theorem renewAll_results (t : List Slot) (p : List Byte) :
    (renewAll t p).2 = p.map (fun h => (renewOne t h.toNat).2.code) := by
  induction p generalizing t with
  | nil => rfl
  | cons h rest ih => simp only [renewAll, List.map_cons, ih, renewOne_result_after]

/-- A live handle is answered OK. -/
theorem State.live.renewOne_result {s : State} {h : Byte} {r : Record} (hl : s.live h r) :
    (renewOne s.table h.toNat).2 = .ok := by
  simp [Machine.renewOne_result, (s.live_iff h r).1 hl]

/-- A stale handle is answered STALE. -/
theorem State.stale.renewOne_result {s : State} {h : Byte} (hs : s.stale h) :
    (renewOne s.table h.toNat).2 = .stale := by
  simp [Machine.renewOne_result, (s.stale_iff h).1 hs]

/-- Settles O28: the table after a RENEW is known slot by slot (`renewAll_getElem?`), and the handles are
answered one by one (`renewAll_results`). -/
theorem renewRestoresRemaining : Obligations.RenewRestoresRemaining := by
  intro s p hm hd
  rw [exec_renew_of_run hm hd]
  refine ⟨fun hlen => ?_, fun hlow hhigh => ?_⟩
  · have outside : ¬ (1 ≤ p.length ∧ p.length ≤ 8) := by omega
    rw [ownRenew, if_neg outside]
    rfl
  · rw [ownRenew, if_pos ⟨hlow, hhigh⟩]
    refine ⟨(renewAll s.table p).1, (renewAll s.table p).2, rfl, by simp [renewAll_results], ?_,
      renewAll_length _ _, ?_⟩
    · intro i h hi
      rw [renewAll_results, List.getElem?_map, hi]
      exact ⟨fun ⟨_, hl⟩ => by rw [Option.map_some, hl.renewOne_result]; rfl,
        fun hs => by rw [Option.map_some, hs.renewOne_result]; rfl⟩
    · intro i x hx
      rw [renewAll_getElem?, hx, Option.map_some]
      refine ⟨fun named => ?_, fun unnamed => ?_⟩
      · rw [Slot.renewedBy, if_pos named]
        rfl
      · rw [Slot.renewedBy, if_neg (fun ⟨h, hmem, hn⟩ => unnamed h hmem hn)]

/-! ### Retirement -/

/-- Retirement frees an occupied slot and advances its generation, from 7 to 0 (R49). -/
theorem Slot.retire_of_any {x : Slot} {p : Record → Bool} (h : x.record.any p = true) :
    x.retire = ⟨(x.generation + 1) % 8, none⟩ := by
  obtain ⟨generation, record⟩ := x
  cases record with
  | none => cases h
  | some r => rfl

/-- A live handle's record is retired in its own slot (R49, R56). -/
theorem State.live.retire_table {s : State} {h : Byte} {r : Record} (hl : s.live h r) :
    s.table.modify (h.toNat % 32) Slot.retire =
      s.table.set (h.toNat % 32) ⟨(h.toNat / 32 + 1) % 8, none⟩ := by
  rw [List.modify_eq_set_getElem?, hl]
  rfl

/-- A handle is stale once its slot has been freed, whatever the slot's generation (R44). -/
theorem State.stale_set_free (s : State) (h : Byte) (generation : Nat) :
    ({ s with table := s.table.set (h.toNat % 32) ⟨generation, none⟩ } : State).stale h := by
  intro r hl
  simp [State.live, List.getElem?_set] at hl

/-- A RETIRE that does not carry one byte is refused (R50, R56). -/
theorem ownRetire_of_length {p : List Byte} (s : State) (h : p.length ≠ 1) :
    ownRetire s p = refuse s .badLength := by
  match p, h with
  | [], _ => rfl
  | _ :: _ :: _, _ => rfl

/-- A RETIRE_OWNER that does not carry one byte is refused (R50, R57). -/
theorem ownRetireOwner_of_length {p : List Byte} (s : State) (h : p.length ≠ 1) :
    ownRetireOwner s p = refuse s .badLength := by
  match p, h with
  | [], _ => rfl
  | _ :: _ :: _, _ => rfl

theorem ownRetire_of_stale {s : State} {h : Byte} (hs : s.stale h) : ownRetire s [h] = refuse s .stale := by
  rw [ownRetire, (s.stale_iff h).1 hs]

theorem ownRetire_of_live {s : State} {h : Byte} {r : Record} (hl : s.live h r) :
    ownRetire s [h] =
      grant { s with table := s.table.set (h.toNat % 32) ⟨(h.toNat / 32 + 1) % 8, none⟩ } [] := by
  rw [ownRetire, (s.live_iff h r).1 hl, hl.retire_table]

/-- Settles O29: the freed slot is what makes the handle stale (`State.stale_set_free`). -/
theorem retireFreesTheSlot : Obligations.RetireFreesTheSlot := by
  intro s p hm hd
  rw [exec_retire_of_run hm hd]
  refine ⟨fun hlen => ?_, ?_, ?_⟩
  · rw [ownRetire_of_length s hlen]
    rfl
  · rintro h rfl hs
    rw [ownRetire_of_stale hs]
    rfl
  · rintro h r rfl hl
    rw [ownRetire_of_live hl]
    exact ⟨_, rfl, rfl, s.stale_set_free h _⟩

/-- The records of which `p` holds are retired, each in its own slot, and the other slots are kept (R49, R57). -/
theorem retireWhere_eq_map (p : Record → Bool) (t : List Slot) :
    retireWhere p t = t.map (fun x => if x.record.any p = true then ⟨(x.generation + 1) % 8, none⟩ else x) := by
  refine List.map_congr_left fun x _ => ?_
  unfold Slot.holds
  split
  · next h => exact Slot.retire_of_any h
  · rfl

/-- Settles O30: every slot is retired as R49 has it (`retireWhere_eq_map`), and a count of slots is at most
their number. -/
theorem retireOwnerFreesItsRecords : Obligations.RetireOwnerFreesItsRecords := by
  intro s p hm hd
  rw [exec_retireOwner_of_run hm hd]
  refine ⟨fun hlen => ?_, ?_, ?_⟩
  · rw [ownRetireOwner_of_length s hlen]
    rfl
  · rintro owner rfl above
    rw [ownRetireOwner, if_pos above]
    rfl
  · rintro owner rfl lawful
    refine ⟨?_, fun hlen => hlen ▸ List.countP_le_length⟩
    rw [ownRetireOwner, if_neg (by omega), retireWhere_eq_map]
    rfl

end Sys2Proof.Machine

/-! ## The queue, and timed commands that find nothing to do -/

namespace Sys2Proof.Machine

/-- Settles O1: `step` is this case split on the queue. -/
theorem stepRunsTheFrontCommand : Obligations.StepRunsTheFrontCommand :=
  fun _ _ _ => ⟨rfl, rfl⟩

/-! ### A timed command's effect -/

section Timed

variable {s : State} {t : Nat}

theorem exec_crkEdge_eq (ht : s.now ≤ t) (edge : Edge) :
    exec (.crkEdge edge t) s =
      .next (if s.mode = .run ∧ edge = s.items.global.crankEdge then ({ s with now := t } : State).crankEdge t
        else { s with now := t }) :=
  congrArg Host.Outcome.next (State.at_of_le ht _)

theorem exec_stall_eq (ht : s.now ≤ t) :
    exec (.stall t) s =
      .next (if s.tracker.sync.lastTooth.any (fun t0 => expired t0 (msTicks s.items.global.stallMs) t) then
        ({ s with now := t } : State).stalled else { s with now := t }) :=
  congrArg Host.Outcome.next (State.at_of_le ht _)

theorem exec_windowClose_eq (ht : s.now ≤ t) (c : Cam) (j : Nat) :
    exec (.windowClose c j t) s = .next (({ s with now := t } : State).interpolatedClose c j t) :=
  congrArg Host.Outcome.next (State.at_of_le ht _)

theorem exec_camEdge_eq (ht : s.now ≤ t) (c : Cam) (edge : Edge) :
    exec (.camEdge c edge t) s =
      if s.enabled c = true ∧ edge = (s.cfg c).edge then ({ s with now := t } : State).camEdge c t
      else .next { s with now := t } :=
  if_neg (Nat.not_lt.2 ht)

theorem exec_linkLoss_eq (ht : s.now ≤ t) :
    exec (.linkLoss t) s =
      .next (if s.link.timer.any (fun t0 => expired t0 (msTicks s.items.global.linkMs) t) then
        (({ s with now := t, table := purge s.table, link := { s.link with timer := some t } } : State).count
          .linkLosses).notify .linkLost
        else { s with now := t }) :=
  congrArg Host.Outcome.next (State.at_of_le ht _)

theorem exec_pwmPeriodEnd_eq (ht : s.now ≤ t) (means : PerCam Nat) :
    exec (.pwmPeriodEnd means t) s =
      .next (match s.timebase with
        | some b =>
          if b.periodOver s.items.global.pwmHz t then ({ s with now := t } : State).periodEnd b means
          else { s with now := t }
        | none => { s with now := t }) := by
  refine congrArg Host.Outcome.next ((State.at_of_le ht _).trans ?_)
  cases s.timebase <;> rfl

theorem exec_dutyElapsed_eq (ht : s.now ≤ t) (c : Cam) :
    exec (.dutyElapsed c t) s =
      .next (if (s.cam c).channel.output = .driven ∧ (s.cam c).channel.switchClosed = true ∧
            (s.cam c).channel.duty < 1000 ∧
            s.timebase.any (fun b => b.dutyOver s.items.global.pwmHz (s.cam c).channel.duty t) = true then
          ({ s with now := t } : State).setChannel c { (s.cam c).channel with switchClosed := false }
        else { s with now := t }) :=
  congrArg Host.Outcome.next (State.at_of_le ht _)

end Timed

/-! ### Edges that are disregarded -/

/-- Settles O6: R1 and R2 are the guard of CRK_EDGE, and STOPPED is the first case of the tracker's own
case split (R6). -/
theorem firstToothStartsSearch : Obligations.FirstToothStartsSearch := by
  intro edge t s ht
  rw [exec_crkEdge_eq ht]
  refine ⟨fun held => ?_, fun hm he hs => ?_⟩
  · have outside : ¬ (s.mode = .run ∧ edge = s.items.global.crankEdge) := by
      rintro ⟨hm, he⟩
      rcases held with h | h
      · rw [h] at hm; cases hm
      · exact h he
    rw [if_neg outside]
  · rw [if_pos ⟨hm, he⟩, State.crankEdge]
    simp only [hs]
    rfl

/-- Settles O16: an edge that passes the guard of CAM_EDGE finds no angle in these sync states (R26). -/
theorem edgeWithoutAngleIsDisregarded : Obligations.EdgeWithoutAngleIsDisregarded := by
  intro c edge t s ht without
  rw [exec_camEdge_eq ht]
  split
  next live =>
    obtain ⟨enabled, polarity⟩ := live
    unfold State.camEdge
    rcases without with h | h | h | ⟨q, h⟩ | ⟨k, h, hc⟩
    · rw [h] at enabled; cases enabled
    · exact absurd polarity h
    · simp [h]
    · simp [h]
    · simp [h, hc]
  next => rfl

/-! ### The elapsed duty -/

theorem Timebase.dutyOver_iff (b : Timebase) (hz duty t : Nat) :
    b.dutyOver hz duty t = true ↔ (b.periods * 1000 + duty) * 10000000 ≤ (t - b.start) * hz * 1000 :=
  decide_eq_true_iff

/-- Settles O50: the guard of DUTY_ELAPSED is the condition stated (R137). -/
theorem dutyElapsedOpensTheSwitch : Obligations.DutyElapsedOpensTheSwitch := by
  intro c t s h ht hh
  subst hh
  rw [exec_dutyElapsed_eq ht]
  refine ⟨fun b hb hd hs hl elapsed => ?_, fun idle => ?_⟩
  · rw [if_pos ⟨hd, hs, hl, by rw [hb, Option.any_some]; exact (b.dutyOver_iff _ _ _).2 elapsed⟩]
    rfl
  · rw [if_neg]
    rintro ⟨hd, hs, hl, elapsed⟩
    rcases idle with h | h | h | h | ⟨b, hb, early⟩
    · rw [h] at hd; cases hd
    · rw [h] at hs; cases hs
    · omega
    · simp [h] at elapsed
    · rw [hb, Option.any_some, Timebase.dutyOver_iff] at elapsed
      exact Nat.not_le.2 early elapsed

/-! ### Requests of the other mode -/

theorem State.serve_inRun_of_config {s : State} {r : Request} {p : List Byte} (hm : s.mode = .config)
    (hd : s.delivers r p) (owner : State → List Byte → Reply) :
    s.serve r (inRun owner) = s.answered r .wrongMode [] := by
  rw [State.serve_of_delivers hd, inRun, if_neg (by rw [hm]; nofun)]
  rfl

theorem State.serve_inConfig_of_run {s : State} {r : Request} {p : List Byte} (hm : s.mode = .run)
    (hd : s.delivers r p) (owner : State → List Byte → Reply) :
    s.serve r (inConfig owner) = s.answered r .wrongMode [] := by
  rw [State.serve_of_delivers hd, inConfig, if_neg (by rw [hm]; nofun)]
  rfl

/-- Settles O25: each request of RUN alone is served behind `inRun`, each of CONFIG alone behind `inConfig`. -/
theorem wrongModeIsRefused : Obligations.WrongModeIsRefused := by
  intro s r p t hd ht
  refine ⟨fun hm hr => ?_, fun hm => ⟨?_, ?_⟩⟩
  · have refused := fun owner => congrArg (Host.Outcome.next (φ := Fault) (ρ := Refusal))
      (State.serve_inRun_of_config hm hd owner)
    simp only [List.mem_cons, List.not_mem_nil, or_false] at hr
    rcases hr with rfl | rfl | rfl | rfl | rfl | rfl | rfl | rfl | rfl | rfl
    all_goals exact refused _
  · rintro rfl
    exact congrArg Host.Outcome.next (State.serve_inConfig_of_run hm hd _)
  · rintro rfl
    refine congrArg Host.Outcome.next ((State.at_of_le ht _).trans ?_)
    exact State.serve_inConfig_of_run (s := { s with now := t }) hm hd _

end Sys2Proof.Machine

/-! ## Angles: the clock, a window's range, a displacement (R13, R24, R25, R29) -/

namespace Sys2Proof.Machine

/-! ### The angle clock -/

theorem pitchAngle_mul_teeth {g : GlobalItems} (h : g.teeth ∈ [12, 24, 36, 48, 60]) :
    g.pitchAngle * g.teeth = 5760 ∧ 12 ≤ g.teeth ∧ 96 ≤ g.pitchAngle := by
  unfold GlobalItems.pitchAngle
  simp only [List.mem_cons, List.not_mem_nil, or_false] at h
  rcases h with h | h | h | h | h <;> simp [h]

/-- From a tooth's own angle the clock's hold limit ends within the revolution (R13). -/
theorem position_add_holdLimit {g : GlobalItems} {p : Nat} (ht : g.teeth ∈ [12, 24, 36, 48, 60])
    (hm : g.missing ∈ [1, 2]) (hp : p ≤ g.lastPosition) :
    1 ≤ g.holdLimit p ∧ p * g.pitchAngle + g.holdLimit p ≤ 5760 := by
  obtain ⟨hprod, hteeth, hpitch⟩ := pitchAngle_mul_teeth ht
  have hm2 : g.missing ≤ 2 := by
    simp only [List.mem_cons, List.not_mem_nil, or_false] at hm; omega
  unfold GlobalItems.lastPosition at hp
  have key : ∀ n, p + n ≤ g.teeth → p * g.pitchAngle + g.pitchAngle * n ≤ 5760 := fun n hn =>
    calc p * g.pitchAngle + g.pitchAngle * n = g.pitchAngle * (p + n) := by ring
      _ ≤ g.pitchAngle * g.teeth := Nat.mul_le_mul_left _ hn
      _ = 5760 := hprod
  unfold GlobalItems.holdLimit
  split
  · exact ⟨Nat.mul_pos (by omega) (by omega), key _ (by omega)⟩
  · have one := key 1 (by omega)
    rw [Nat.mul_one] at one
    exact ⟨by omega, one⟩

/-- A tooth's angle and the clock's step from it stay within the revolution (R13). -/
theorem angle_add_clockStep_lt {g : GlobalItems} {k : Tooth} (ht : g.teeth ∈ [12, 24, 36, 48, 60])
    (hm : g.missing ∈ [1, 2]) (hp : k.position ≤ g.lastPosition) (ha : k.angle = k.position * g.pitchAngle)
    (t : Nat) : k.angle + clockStep g k t < 5760 := by
  obtain ⟨hpos, hend⟩ := position_add_holdLimit ht hm hp
  have hstep := clockStep_le g k t
  omega

theorem clockStep_of_pitch {g : GlobalItems} {k : Tooth} (hk : k.pitch ≠ 0) (t : Nat) :
    clockStep g k t =
      min ((t - k.lastTooth) * g.pitchAngle / k.pitch) (g.holdLimit k.position - 1) := by
  unfold clockStep
  dsimp only
  split
  next h => rw [h, Nat.zero_mul, Nat.zero_div]
  next => rfl

/-- Settles O13: the clock never needs its reduction modulo a revolution (`angle_add_clockStep_lt`). -/
theorem angleClockHolds : Obligations.AngleClockHolds := by
  intro g k t h ht hm hp ha hh
  have within := angle_add_clockStep_lt ht hm hp ha
  have read : ∀ t, clockAt g k 5760 t = k.angle + clockStep g k t := fun t => Nat.mod_eq_of_lt (within t)
  refine ⟨fun hk => ?_, ?_, ?_, ?_⟩
  · rw [read, clockStep_of_pitch hk]
    rfl
  · rw [read, clockStep_lastTooth, Nat.add_zero]
  · rw [read]
    exact within t
  · have later : h * 5760 + k.angle + clockStep g k t < 11520 := by have := within t; omega
    rw [read]
    calc (h * 5760 + k.angle + clockStep g k t) % 11520
        = h * 5760 + k.angle + clockStep g k t := Nat.mod_eq_of_lt later
      _ = h * 5760 + (k.angle + clockStep g k t) := Nat.add_assoc _ _ _

/-! ### A window's range -/

theorem angleSub_lt (a b : Nat) : angleSub a b < 11520 := Nat.mod_lt _ (by omega)

/-- Below a cycle an angle lies its difference beyond the other. -/
theorem angleSub_eq_iff {a b n : Nat} (ha : a < 11520) (hb : b < 11520) (hn : n < 11520) :
    angleSub a b = n ↔ a = (b + n) % 11520 := by
  unfold angleSub
  omega

theorem Window.contains_iff (w : Window) (a : Nat) : w.contains a = true ↔ angleSub a w.start < w.width :=
  decide_eq_true_iff

theorem Window.contains_offset {w : Window} (hs : w.start < 11520) {n : Nat} (hn : n < 11520) :
    w.contains ((w.start + n) % 11520) = true ↔ n < w.width := by
  rw [Window.contains_iff, (angleSub_eq_iff (Nat.mod_lt _ (by omega)) hs hn).2 rfl]

/-- Settles O20: an angle's offset from the start is its difference from it (`angleSub_eq_iff`). -/
theorem windowHoldsItsRange : Obligations.WindowHoldsItsRange := by
  intro w a hs h1 h2 ha
  refine ⟨⟨fun h => ?_, ?_⟩, ?_, ?_, ?_⟩
  · exact ⟨angleSub a w.start, (w.contains_iff a).1 h, (angleSub_eq_iff ha hs (angleSub_lt _ _)).1 rfl⟩
  · rintro ⟨n, hn, rfl⟩
    exact (Window.contains_offset hs (by omega)).2 hn
  · rw [Nat.add_sub_assoc h1]
    exact (Window.contains_offset hs (by omega)).2 (by omega)
  · rw [← Bool.not_eq_true, Window.contains_offset hs (by omega)]
    omega
  · rw [← Bool.not_eq_true, Window.closeAngle, Window.contains_offset hs (by omega)]
    omega

/-! ### The displacement in a window -/

/-- The signed displacement before L of an edge that lies `n` angles after a window's start (R24, R29). -/
theorem displacement_of_offset {x : CamItems} {base a : Nat} (ht : x.travel ≤ 1280) (hm : x.margin ≤ 160)
    (hb : base < 11520) (ha : a < 11520) (hin : angleSub a (windowStart x base) < windowWidth x) :
    displacement x 0 base a =
      match x.direction with
      | .advance => (x.travel : Int) + x.margin - angleSub a (windowStart x base)
      | .retard => (angleSub a (windowStart x base) : Int) - x.margin := by
  unfold displacement windowStart windowWidth angleSub norm at *
  cases hdir : x.direction <;> simp only [hdir, Direction.sign] at hin ⊢ <;> omega

/-- Settles O21: the displacement is an offset from the window's start (`displacement_of_offset`). -/
theorem displacementLiesInTravel : Obligations.DisplacementLiesInTravel := by
  intro x base a offset ht hm hb ha hin
  have hlt : angleSub a (windowStart x base) < windowWidth x := ((buildWindow x base).contains_iff a).1 hin
  have hd := displacement_of_offset ht hm hb ha hlt
  have hstart : windowStart x base < 11520 := by
    unfold windowStart; cases x.direction <;> exact angleSub_lt _ _
  have atOffset : ∀ n, n < 11520 → a = (windowStart x base + n) % 11520 →
      angleSub a (windowStart x base) = n := fun n hn h => (angleSub_eq_iff ha hstart hn).2 h
  have hwidth : windowWidth x = x.travel + 2 * x.margin + 1 := rfl
  refine ⟨by simp [displacement], ?_, ?_, fun h => ?_, fun h => ?_⟩
  · rw [hd]; cases x.direction <;> simp only <;> omega
  · rw [hd]; cases x.direction <;> simp only <;> omega
  · have h0 := atOffset 0 (by omega) (by
      change a = windowStart x base at h
      rw [Nat.add_zero, Nat.mod_eq_of_lt hstart]; exact h)
    rw [hd, h0]; cases x.direction <;> simp only <;> omega
  · have hlast := atOffset (windowWidth x - 1) (by omega) (by
      rw [← Nat.add_sub_assoc (by omega)]; exact h)
    rw [hd, hlast]; cases x.direction <;> simp only <;> omega

end Sys2Proof.Machine

/-! ## The blend mean, the ramp, the control law and the output (R78, R121, R125 to R127, R136) -/

namespace Sys2Proof.Machine

/-- The weighted sum lies between the total weight's multiples of two bounds on the targets. -/
theorem weightedSum_bounds {es : List Entry} {lo hi : Nat}
    (h : ∀ e ∈ es, lo ≤ e.record.first ∧ e.record.first ≤ hi) :
    (es.map (fun e => e.record.rank)).sum * lo ≤ (es.map (fun e => e.record.rank * e.record.first)).sum ∧
    (es.map (fun e => e.record.rank * e.record.first)).sum ≤ (es.map (fun e => e.record.rank)).sum * hi := by
  induction es with
  | nil => simp
  | cons e rest ih =>
    obtain ⟨hlo, hhi⟩ := h e (List.mem_cons_self ..)
    obtain ⟨ihlo, ihhi⟩ := ih fun x hx => h x (List.mem_cons_of_mem _ hx)
    simp only [List.map_cons, List.sum_cons, Nat.add_mul]
    exact ⟨Nat.add_le_add (Nat.mul_le_mul_left _ hlo) ihlo, Nat.add_le_add (Nat.mul_le_mul_left _ hhi) ihhi⟩

/-- Settles O36: `blendMean` is a quotient by twice the total weight, which is not 0. -/
theorem blendMeanRoundsHalvesUp : Obligations.BlendMeanRoundsHalvesUp := by
  intro es S W hne hrank hS hW
  have mean : blendMean es = (2 * S + W) / (2 * W) := by rw [hS, hW]; rfl
  have hpos : 0 < W := by
    obtain ⟨e, he⟩ := List.exists_mem_of_ne_nil es hne
    have := List.single_le_sum (l := es.map (fun e => e.record.rank)) (fun _ _ => Nat.zero_le _) _
      (List.mem_map_of_mem (f := fun e => e.record.rank) he)
    have := hrank e he
    omega
  have between : ∀ lo hi, (∀ e ∈ es, lo ≤ e.record.first ∧ e.record.first ≤ hi) →
      lo ≤ blendMean es ∧ blendMean es ≤ hi := by
    intro lo hi h
    obtain ⟨hlo, hhi⟩ := weightedSum_bounds h
    rw [← hS, ← hW] at hlo hhi
    rw [mean]
    constructor
    · rw [Nat.le_div_iff_mul_le (by omega)]
      nlinarith
    · rw [← Nat.lt_succ_iff, Nat.div_lt_iff_lt_mul (by omega)]
      nlinarith
  refine ⟨?_, ?_, between, ?_⟩
  · rw [mean]; exact Nat.mul_div_le _ _
  · rw [mean]; exact Nat.lt_mul_div_succ _ (by omega)
  · rintro e rfl
    have := between e.record.first e.record.first (by simp)
    omega

/-- Settles O44: the three cases of `ramp` are the three rows of R121. -/
theorem rampMovesTowardTheTarget : Obligations.RampMovesTowardTheTarget := by
  intro l x target slew d r hr
  change r = ramp l.ramped target slew at hr
  unfold ramp at hr
  split at hr
  · omega
  · split at hr <;> omega

theorem clampInt_eq {v lo hi : Int} (h : lo ≤ hi) : clampInt v lo hi = max lo (min v hi) := by
  unfold clampInt
  split
  · omega
  · split <;> omega

/-- Settles O45: `settleIntegrator` holds the integrator in exactly the two saturated cases (R127). -/
theorem commandSaturates : Obligations.CommandSaturates := by
  intro l x target slew d e acc' u n mA hn he hacc hu
  rw [← clampInt_eq (by omega)] at hacc
  simp only [Loop.update, Prod.mk.injEq] at hn
  obtain ⟨rfl, rfl⟩ := hn
  dsimp only at he ⊢
  have hacc' : tentative x l.integrator ((ramp l.ramped target slew : Int) - d) = acc' := by
    rw [hacc, he]; rfl
  have hu' : rawCommand x acc' ((ramp l.ramped target slew : Int) - d) = u := by rw [hu, he]; rfl
  rw [hacc', hu', ← he]
  unfold settleIntegrator limitCommand clampInt
  refine ⟨fun h1 h2 => ?_, fun h1 h2 => ?_, fun h1 h2 => ?_, fun h1 h2 => ?_, fun h1 h2 => ?_⟩
  · have : ¬ u < 0 := by omega
    simp [h1, h2, this]
  · have : ¬ u < 0 := by omega
    simp [h1, this, not_lt.2 h2]
  · have : ¬ (x.imax : Int) < u := by omega
    simp [h1, h2, this]
  · have : ¬ (x.imax : Int) < u := by omega
    simp [h1, this, not_lt.2 h2]
  · simp [not_lt.2 h1, not_lt.2 h2, h1]

theorem Channel.mayDrive_iff (h : Channel) (line : ParkLine) :
    h.mayDrive line = true ↔ 0 < h.command ∧ line = .released ∧ h.latch = .none := by
  simp [Channel.mayDrive, and_assoc]

/-- The four cases in which an output follows its three conditions (R136). -/
theorem Channel.follow_eq (h : Channel) (line : ParkLine) :
    h.follow line =
      if h.mayDrive line = true then (if h.output = .driven then h else h.switchOn)
      else (if h.output = .driven then h.switchOff else h) := by
  unfold Channel.follow
  cases h.output <;> cases h.mayDrive line <;> rfl

/-- Settles O47: a new command is held, and `Channel.follow_eq` says what the output makes of it. -/
theorem outputFollowsTheCommand : Obligations.OutputFollowsTheCommand := by
  intro h w line mA hw hsound
  subst hw
  unfold Channel.write
  split
  next same =>
    subst same
    refine ⟨rfl, hsound, rfl, rfl, fun _ => rfl, fun _ _ h => absurd rfl h, fun h1 h2 => ?_, fun h1 h2 => ?_⟩
    all_goals rw [h1] at h2; cases h2
  next changed =>
    have drives : ∀ n, ({ h with command := mA, openLoadRun := n } : Channel).mayDrive line = true ↔
        0 < mA ∧ line = .released ∧ h.latch = .none := fun n => Channel.mayDrive_iff _ _
    rw [Channel.follow_eq]
    by_cases may : 0 < mA ∧ line = .released ∧ h.latch = .none
    · rw [if_pos ((drives _).2 may)]
      cases h.output <;> simp [changed, may, Channel.switchOn]
    · rw [if_neg (mt (drives _).1 may)]
      cases h.output <;> simp [changed, may, Channel.switchOff]

end Sys2Proof.Machine

/-! ## The sequencer's moves, each written out (R95 to R116) -/

namespace Sys2Proof.Machine

/-! ### The shared moves -/

/-- Setting a cam's blocks replaces them in the family. -/
theorem State.setCam_eq (s : State) (c : Cam) (k : CamState) : s.setCam c k = { s with cams := s.cams.set c k } := rfl

/-- A second setting of a cam stands alone. -/
theorem State.setCam_of_set (s : State) (c : Cam) (k l : CamState) :
    ({ s with cams := s.cams.set c k } : State).setCam c l = { s with cams := s.cams.set c l } :=
  s.setCam_setCam c k l

@[simp] theorem State.cam_of_set (s : State) (c : Cam) (k : CamState) :
    ({ s with cams := s.cams.set c k } : State).cam c = k :=
  s.setCam_cam_self c k

theorem Sequencer.aborted_of_idle {q : Sequencer} (h : q.learning = false) : q.aborted = q := by
  cases q
  subst h
  rfl

/-- The abort of a learn clears a BUSY one, and leaves any other as it was (R116). -/
theorem State.abortLearn_eq (s : State) (c : Cam) :
    s.abortLearn c = { s with
      notices := s.abortNotices c
      cams := s.cams.set c { s.cam c with phaser := (s.cam c).phaser.aborted } } := by
  unfold State.abortLearn State.abortNotices
  cases hl : (s.cam c).phaser.learning
  · rw [Sequencer.aborted_of_idle hl]
    exact (s.setCam_cam_same c).symm
  · simp [State.endLearn, State.notify, State.setCam, Notice.bit, Sequencer.aborted, hl]

/-- A cam stood down, its learn aborted first: the command, R, the integrator, the count and the runs are 0
(R105, R106, R109). -/
theorem State.abortLearn_standDown (s : State) (c : Cam) (st : PhaserState) :
    (s.abortLearn c).standDown c st = { s with
      notices := s.abortNotices c
      cams := s.cams.set c { s.cam c with
        phaser := { (s.cam c).phaser.aborted with
          state := st, releaseCount := 0, parkRun := 0, errorRun := 0, eventSeen := false, allOver := true }
        loop := ⟨0, 0⟩
        channel := (s.cam c).channel.write s.parkLine 0 } } := by
  rw [State.abortLearn_eq]
  simp [State.standDown, State.command, State.setCam, State.cam, Sequencer.resetRuns, Loop.reset]

/-- The clamp of a displacement into TRAVEL, on the signed value. -/
theorem clamp_toNat (d : Int) (n : Nat) : clamp d.toNat 0 n = (max 0 (min d (n : Int))).toNat := by
  unfold clamp
  split
  · omega
  · split <;> omega

/-- The entry to TRACKING is the preset and a sequencer that tracks (R102). -/
theorem State.enterTracking_eq (s : State) (c : Cam) :
    s.enterTracking c = { s with
      cams := s.cams.set c { s.cam c with phaser := (s.cam c).phaser.tracks, loop := s.preset c } } := by
  simp [State.enterTracking, State.setCam, State.preset, Sequencer.tracks, Sequencer.resetRuns, clamp_toNat]

/-! ### Measurement events -/

theorem State.beginRelease_eq (s : State) (c : Cam) :
    s.beginRelease c = { s with
      notices := s.abortNotices c
      cams := s.cams.set c { s.cam c with
        phaser := { (s.cam c).phaser.aborted with state := .releasing, releaseCount := 0 }
        channel := (s.cam c).channel.write s.parkLine (s.cfg c).releaseCurrent } } := by
  unfold State.beginRelease
  rw [State.abortLearn_eq]
  simp [State.command, State.setCam, State.cam, State.cfg]

theorem State.abandonRelease_eq (s : State) (c : Cam) :
    s.abandonRelease c = { s with
      cams := s.cams.set c { s.cam c with
        phaser := { (s.cam c).phaser with state := .parked, releaseCount := 0 }
        channel := (s.cam c).channel.write s.parkLine 0 } } := by
  simp [State.abandonRelease, State.command, State.setCam, State.cam]

/-- Settles O40: the events of R97 to R99 are the branches of `State.takeEvent`. -/
theorem eventsReleaseAndUnlock : Obligations.EventsReleaseAndUnlock := by
  intro s c j d
  unfold State.takeEvent
  refine ⟨fun h => ?_, fun hp hj ht => ?_, fun hp hj ht => ?_, fun hp hstay => ⟨fun h1 h2 => ?_, fun h => ?_⟩⟩
  · simp only [List.mem_cons, List.not_mem_nil, or_false] at h
    rcases h with h | h | h <;> simp [h]
  · simp only [hp]
    rw [if_pos ⟨hj, ht⟩, State.beginRelease_eq]
  · simp only [hp]
    rw [if_pos ⟨hj, ht⟩, State.abandonRelease_eq]
  all_goals
    simp only [hp]
    rw [if_neg (by omega)]
  · rw [if_pos ⟨h1, h2⟩, State.enterTracking_eq]
  · rw [if_neg (by omega)]

/-- A sample that is not the eighth (R114). -/
theorem State.learnSample_of_lt {s : State} {c : Cam} (hl : (s.cam c).phaser.learning = true)
    (hn : (s.cam c).phaser.samples + 1 ≠ 8) (d : Int) :
    s.learnSample c d = { s with
      cams := s.cams.set c { s.cam c with
        phaser := { (s.cam c).phaser with
          samples := (s.cam c).phaser.samples + 1, sum := (s.cam c).phaser.sum + d } } } := by
  simp [State.learnSample, hl, hn, State.setCam]

/-- The eighth sample ends the learn, DONE exactly when L stays within LEARN_LIMIT (R115). -/
theorem State.learnSample_of_eq {s : State} {c : Cam} (hl : (s.cam c).phaser.learning = true)
    (hn : (s.cam c).phaser.samples + 1 = 8) (d : Int) {mean : Int}
    (hmean : learnMean ((s.cam c).phaser.sum + d) = mean) {done : Bool}
    (hdone : done = true ↔ ((s.cam c).lane.offset + mean).natAbs ≤ s.items.global.learnLimit) :
    s.learnSample c d = { s with
      notices := s.notices ||| BitVec.twoPow 16 (12 + c.index)
      cams := s.cams.set c { s.cam c with
        lane := { (s.cam c).lane with
          offset := if done = true then (s.cam c).lane.offset + mean else (s.cam c).lane.offset }
        phaser := { (s.cam c).phaser with
          samples := 8, sum := (s.cam c).phaser.sum + d, learning := false
          lastLearn := if done = true then .done else .failed } } } := by
  unfold State.learnSample
  dsimp only
  rw [if_pos hl, if_pos hn]
  unfold State.completeLearn
  by_cases h : done = true
  · have within := hdone.1 h
    simp [hmean, within, h, hn, State.endLearn, State.notify, State.setCam, Notice.bit]
  · have outside := mt hdone.2 h
    simp [hmean, outside, h, hn, State.endLearn, State.notify, State.setCam, Notice.bit]

/-- In PARKED an event that begins no release goes to the learn (R95). -/
theorem State.takeEvent_of_parked {s : State} {c : Cam} {j : Nat} (hp : (s.cam c).phaser.state = .parked)
    (h : j ≠ 0 ∨ (s.cam c).arbiter.target ≤ (s.cfg c).parkBand) (d : Int) :
    s.takeEvent c j d = s.learnSample c d := by
  simp only [State.takeEvent, hp]
  rw [if_neg (by omega)]

/-! ### A request at its owner, in RUN -/

theorem exec_learn_of_run {s : State} {p : List Byte} (hm : s.mode = .run) (hd : s.delivers .learn p) :
    exec .learn s =
      .next ((ownLearn s p).state.answered .learn (ownLearn s p).result (ownLearn s p).payload) :=
  congrArg Host.Outcome.next (State.serve_inRun hm hd ownLearn)

theorem ownLearn_of_length {p : List Byte} (s : State) (h : p.length ≠ 1) :
    ownLearn s p = refuse s .badLength := by
  match p, h with
  | [], _ => rfl
  | _ :: _ :: _, _ => rfl

theorem Sync.isEngine_iff (y : Sync) : y.isEngine = true ↔ ∃ k z, y = .engineSync k z := by
  cases y <;> simp [Sync.isEngine]

/-- Settles O42: LEARN's checks in their order (R113), then the samples (`State.learnSample_of_lt`,
`State.learnSample_of_eq`). -/
theorem learnTakesEightSamples : Obligations.LearnTakesEightSamples := by
  intro s hm
  refine ⟨fun p hd hlen => ?_, fun b hd hb => ?_, fun b c hd hb => ⟨fun busy => ?_, fun idle => ⟨fun away => ?_,
    fun hp hs => ?_⟩⟩, ?_⟩
  · rw [exec_learn_of_run hm hd, ownLearn_of_length s hlen]
    rfl
  · rw [exec_learn_of_run hm hd, ownLearn, camOfIndex_eq_none.2 hb]
    rfl
  · rw [exec_learn_of_run hm hd, ownLearn, camOfIndex_eq_some.2 hb]
    simp only [busy, if_true]
    rfl
  · rw [exec_learn_of_run hm hd, ownLearn, camOfIndex_eq_some.2 hb]
    simp only [idle, Bool.false_eq_true, if_false]
    rw [if_neg fun ⟨hp, he⟩ => away.elim (fun h => h hp) (fun h => h ((Sync.isEngine_iff _).1 he))]
    rfl
  · rw [exec_learn_of_run hm hd, ownLearn, camOfIndex_eq_some.2 hb]
    simp only [idle, Bool.false_eq_true, if_false]
    rw [if_pos ⟨hp, (Sync.isEngine_iff _).2 hs⟩]
    rfl
  · rintro c j d mean q rfl hp hstay
    rw [State.takeEvent_of_parked hp hstay]
    refine ⟨fun hl => ?_, fun hl hn => ?_, fun hl hn h1 h2 done hdone => ?_⟩
    · simp [State.learnSample, hl]
    · exact State.learnSample_of_lt hl (by omega) d
    · exact State.learnSample_of_eq hl (by omega) d (by unfold learnMean; omega) hdone

/-! ### Cycle marks -/

/-- A report of STUCK or FOLLOWING reaches a cam in service, which enters FAULT (R109). -/
theorem State.reportFault_of_inService {s : State} {c : Cam} (h : (s.cam c).phaser.state.inService = true)
    (cause : Cause) : s.reportFault c cause = s.faulted c cause := by
  unfold State.reportFault
  cases hp : (s.cam c).phaser.state <;> first | exact State.enterFault_eq s c cause | simp [hp, PhaserState.inService] at h

/-- Settles O41: the marks of R100, R101 and R104 are the branches of `State.cycleMark`. -/
theorem cycleMarkMovesTheSequencer : Obligations.CycleMarkMovesTheSequencer := by
  rintro s m c q rfl
  unfold State.cycleMark
  refine ⟨fun h => ?_, ?_, fun hp h0 => ?_, ?_⟩
  · simp only [List.mem_cons, List.not_mem_nil, or_false] at h
    rcases h with h | h | h | h <;> simp [h]
  · rintro hp rfl
    simp only [hp, State.releaseMark, State.setCam_eq]
    refine ⟨fun h1 h2 => ?_, fun h1 => ?_⟩
    · rw [if_pos ⟨h1, h2⟩, State.enterTracking_eq]
      simp only [State.preset, Sequencer.tracks, State.cam_of_set, PerCam.set_set]
      rfl
    · rw [if_neg (by omega)]
      refine ⟨fun h2 => ?_, fun h2 => ?_⟩
      · rw [if_pos h2]
        exact State.reportFault_of_inService (by simp [PhaserState.inService]) _
      · rw [if_neg h2]
  · simp [hp, State.trackMark, h0]
  · rintro hp h0 run hrun rfl
    have closed : closeErrorRun (s.cam c).phaser.eventSeen (s.cam c).phaser.allOver (s.cam c).phaser.errorRun =
        run := by
      rw [hrun, closeErrorRun]
      cases (s.cam c).phaser.eventSeen <;> rfl
    simp only [hp, State.trackMark, State.setCam_eq, closed]
    rw [if_neg h0]
    refine ⟨fun h1 => ?_, fun h1 => ?_⟩
    · rw [if_pos h1]
      exact State.reportFault_of_inService (by simp [PhaserState.inService]) _
    · rw [if_neg h1]

/-! ### Events in TRACKING -/

/-- A position loop's update and its command, written out (R120, R128). -/
theorem State.updateLoop_eq {s : State} {c : Cam} {d : Int} {l : Loop} {mA : Nat}
    (h : (l, mA) = (s.cam c).loop.update (s.cfg c) (s.cam c).arbiter.target
      ((s.cam c).arbiter.activeSlew (s.cfg c)) d) :
    s.updateLoop c d = { s with
      cams := s.cams.set c { s.cam c with loop := l, channel := (s.cam c).channel.write s.parkLine mA } } := by
  unfold State.updateLoop
  dsimp only
  rw [← h]
  simp [State.command, State.setCam, State.cam]

/-- Settles O46: the loop's update comes first, and the two tests of `State.trackTests` read its result. -/
theorem trackingEventUpdatesTheLoop : Obligations.TrackingEventUpdatesTheLoop := by
  rintro s c j d l mA run q rfl hp hl hrun
  replace hl : (l, mA) = (s.cam c).loop.update (s.cfg c) (s.cam c).arbiter.target
      ((s.cam c).arbiter.activeSlew (s.cfg c)) d :=
    hl.trans (by unfold Arbiter.activeSlew; cases (s.cam c).arbiter.slewCap <;> rfl)
  have park : (if atRest (s.cam c).arbiter.target l.ramped d (s.cfg c).parkBand then
      (s.cam c).phaser.parkRun + 1 else 0) = run := by
    rw [hrun]; simp [atRest]
  simp only [State.takeEvent, hp, State.updateLoop_eq hl, State.trackTests, State.cam_of_set]
  have cfg : ∀ k : PerCam CamState, ({ s with cams := k } : State).cfg c = s.cfg c := fun _ => rfl
  simp only [cfg, park]
  refine ⟨fun h2 => ?_, fun h2 => ?_⟩
  · rw [if_pos h2]
    simp [State.returnToPark, State.command, State.setCam, State.cam, Sequencer.resetRuns, Loop.reset]
  · rw [if_neg h2, State.setCam_of_set]
    by_cases h0 : (s.cfg c).trackErrLimit = 0 <;> simp [Sequencer.recordError, h0, hp]

/-! ### The overcurrent trip -/

/-- A latched fault turns a DRIVEN output OFF (R140, R141, R143). -/
theorem Channel.latchFault_of_driven {h : Channel} (hd : h.output = .driven) (line : ParkLine) {fault : Latch}
    (hf : fault ≠ .none) : h.latchFault line fault = { h with
      output := .off, duty := 0, switchClosed := false, limited := false, latch := fault, openLoadRun := 0
      wholePeriod := false, starting := false } := by
  unfold Channel.latchFault
  rw [Channel.follow_eq, if_neg (by rw [Channel.mayDrive_iff]; exact fun x => hf x.2.2)]
  simp [hd, Channel.switchOff]

theorem State.reportFault_of_moving {s : State} {c : Cam}
    (h : (s.cam c).phaser.state ∈ [PhaserState.parked, .releasing, .tracking, .forced]) (cause : Cause) :
    s.reportFault c cause = s.faulted c cause := by
  simp only [List.mem_cons, List.not_mem_nil, or_false] at h
  unfold State.reportFault
  rcases h with h | h | h | h <;> simp only [h] <;> exact State.enterFault_eq s c cause

/-- Settles O48: a trip latches the fault and reports it in one step (R141). -/
theorem overcurrentTrips : Obligations.OvercurrentTrips := by
  rintro c mA s h rfl
  refine ⟨fun idle => ?_, fun hI hs hl hd hp => ?_⟩
  · refine congrArg Host.Outcome.next (if_neg ?_)
    rintro ⟨hs, hl, hI⟩
    rcases idle with h | h | h
    · exact absurd hI (Nat.not_lt.2 h)
    · rw [h] at hs; cases hs
    · exact h hl
  · refine congrArg Host.Outcome.next ((if_pos ⟨hs, hl, hI⟩).trans ?_)
    rw [State.driverFault, Channel.latchFault_of_driven hd _ (fault := .overcurrent) nofun, State.setChannel,
      State.reportFault_of_moving (by simpa using hp)]
    rfl

end Sys2Proof.Machine

/-! ## What COMMIT's checks say (R150, R154, R155) -/

namespace Sys2Proof.Machine

/-! ### The ranges of the items -/

section Ranges

variable {x : Items}

theorem inRange_iff (lo hi v : Nat) : inRange lo hi v = true ↔ lo ≤ v ∧ v ≤ hi := decide_eq_true_iff

theorem Items.Lawful.teeth (h : x.Lawful) : x.global.teeth ∈ [12, 24, 36, 48, 60] := by
  have range : [12, 24, 36, 48, 60].contains x.global.teeth = true := h (.global .teeth)
  simpa using range

theorem Items.Lawful.missing (h : x.Lawful) : x.global.missing ∈ [1, 2] := by
  have range := (inRange_iff _ _ _).1 (h (.global .missing))
  simp only [Items.read, GlobalItems.read] at range
  simp only [List.mem_cons, List.not_mem_nil, or_false]
  omega

theorem Items.Lawful.pwmHz (h : x.Lawful) : 100 ≤ x.global.pwmHz ∧ x.global.pwmHz ≤ 500 :=
  (inRange_iff _ _ _).1 (Bool.and_eq_true_iff.1 (h (.global .pwmHz))).1

theorem Items.Lawful.travel (h : x.Lawful) (c : Cam) : 16 ≤ (x.cam.get c).travel ∧ (x.cam.get c).travel ≤ 1280 :=
  (inRange_iff _ _ _).1 (h (.ofCam .travel c))

theorem Items.Lawful.margin (h : x.Lawful) (c : Cam) : (x.cam.get c).margin ≤ 160 :=
  ((inRange_iff _ _ _).1 (h (.ofCam .margin c))).2

theorem Items.Lawful.windowCount (h : x.Lawful) (c : Cam) : (x.cam.get c).windowCount ≤ 4 :=
  ((inRange_iff _ _ _).1 (h (.ofCam .windowCount c))).2

theorem Items.Lawful.missLimit (h : x.Lawful) (c : Cam) : 1 ≤ (x.cam.get c).missLimit :=
  ((inRange_iff _ _ _).1 (h (.ofCam .missLimit c))).1

theorem Items.Lawful.releaseLimit (h : x.Lawful) (c : Cam) : 1 ≤ (x.cam.get c).releaseLimit :=
  ((inRange_iff _ _ _).1 (h (.ofCam .releaseLimit c))).1

theorem Items.Lawful.trackErrCycles (h : x.Lawful) (c : Cam) : 1 ≤ (x.cam.get c).trackErrCycles :=
  ((inRange_iff _ _ _).1 (h (.ofCam .trackErrCycles c))).1

theorem Items.Lawful.base (h : x.Lawful) (c : Cam) : ∀ b ∈ (x.cam.get c).bases, b < 11520 := by
  intro b hb
  have hb4 := List.mem_of_mem_take hb
  simp only [List.mem_cons, List.not_mem_nil, or_false] at hb4
  rcases hb4 with rfl | rfl | rfl | rfl
  · exact Nat.lt_succ_of_le ((inRange_iff 0 11519 _).1 (h (.ofCam .windowBase0 c))).2
  · exact Nat.lt_succ_of_le ((inRange_iff 0 11519 _).1 (h (.ofCam .windowBase1 c))).2
  · exact Nat.lt_succ_of_le ((inRange_iff 0 11519 _).1 (h (.ofCam .windowBase2 c))).2
  · exact Nat.lt_succ_of_le ((inRange_iff 0 11519 _).1 (h (.ofCam .windowBase3 c))).2

end Ranges

/-! ### Starts of windows -/

theorem windowStart_lt (k : CamItems) (base : Nat) : windowStart k base < 11520 := by
  unfold windowStart; cases k.direction <;> exact angleSub_lt _ _

theorem CamItems.starts_length {k : CamItems} (h : k.windowCount ≤ 4) : k.starts.length = k.windowCount := by
  simp [CamItems.starts, CamItems.bases, h]

/-- The start of window `j` is that of its base (R24). -/
theorem CamItems.startOf_eq {k : CamItems} (ht : k.travel ≤ 1280) (hm : k.margin ≤ 160) (j : Nat) :
    k.startOf j =
      windowStart k ([k.windowBase0, k.windowBase1, k.windowBase2, k.windowBase3].getD j 0) := by
  unfold CamItems.startOf windowStart angleSub
  generalize [k.windowBase0, k.windowBase1, k.windowBase2, k.windowBase3].getD j 0 = base
  cases k.direction <;> simp only <;> congr 1 <;> omega

theorem CamItems.starts_getElem {k : CamItems} (ht : k.travel ≤ 1280) (hm : k.margin ≤ 160) {j : Nat}
    (hj : j < k.starts.length) : k.starts[j] = k.startOf j := by
  have h4 : j < 4 := by
    simp only [CamItems.starts, CamItems.bases, List.length_map, List.length_take, List.length_cons,
      List.length_nil] at hj
    omega
  rw [CamItems.startOf_eq ht hm, List.getD_eq_getElem?_getD, List.getElem?_eq_getElem (by simpa using h4)]
  simp only [CamItems.starts, CamItems.bases, List.getElem_map, List.getElem_take, Option.getD_some]

theorem CamItems.startOf_lt (k : CamItems) (j : Nat) : k.startOf j < 11520 := by
  unfold CamItems.startOf; cases k.direction <;> exact Nat.mod_lt _ (by omega)

theorem startsShare_iff {k : CamItems} {a b : Nat} (ha : a < 11520) (hb : b < 11520) :
    startsShare (windowWidth k) a b = true ↔ k.Share a b := by
  simp only [startsShare, decide_eq_true_eq, CamItems.Share, windowWidth, angleSub, Nat.mod_eq_of_lt ha,
    Nat.mod_eq_of_lt hb]

theorem startsDisjoint_iff_pairwise (width : Nat) (l : List Nat) :
    startsDisjoint width l = true ↔ l.Pairwise (fun a b => startsShare width a b = false) := by
  induction l with
  | nil => simp [startsDisjoint]
  | cons a rest ih => simp [startsDisjoint, ih]

section Shared

variable {k : CamItems} (ht : k.travel ≤ 1280) (hm : k.margin ≤ 160) (hw : k.windowCount ≤ 4)
include ht hm hw

/-- Check 4 is pairwise disjointness of the starts. -/
theorem CamItems.windowsDisjoint_iff :
    k.windowsDisjoint = true ↔
      ∀ i j, i < j → j < k.windowCount → ¬ k.Share (k.startOf i) (k.startOf j) := by
  rw [CamItems.windowsDisjoint, startsDisjoint_iff_pairwise, List.pairwise_iff_getElem]
  have hlen := CamItems.starts_length hw
  constructor
  · intro h i j hij hj hshare
    have hi' : i < k.starts.length := by omega
    have hj' : j < k.starts.length := by omega
    have clear := h i j hi' hj' hij
    rw [CamItems.starts_getElem ht hm hi', CamItems.starts_getElem ht hm hj',
      ← Bool.not_eq_true, startsShare_iff (k.startOf_lt i) (k.startOf_lt j)] at clear
    exact clear hshare
  · intro h i j hi hj hij
    rw [CamItems.starts_getElem ht hm hi, CamItems.starts_getElem ht hm hj,
      ← Bool.not_eq_true, startsShare_iff (k.startOf_lt i) (k.startOf_lt j)]
    exact h i j hij (by omega)

/-- Check 5 compares every start, shifted by half a cycle, with every start. -/
theorem CamItems.halvesDistinct_iff :
    k.halvesDistinct = true ↔
      ∀ i j, i < k.windowCount → j < k.windowCount →
        ¬ k.Share ((k.startOf i + 5760) % 11520) (k.startOf j) := by
  have hlen := CamItems.starts_length hw
  have shift_lt : ∀ a, shifted a < 11520 := fun a => Nat.mod_lt _ (by omega)
  simp only [CamItems.halvesDistinct, List.all_eq_true, Bool.not_eq_true']
  constructor
  · intro h i j hi hj hshare
    have hi' : i < k.starts.length := by omega
    have hj' : j < k.starts.length := by omega
    have clear := h _ (List.getElem_mem hi') _ (List.getElem_mem hj')
    rw [CamItems.starts_getElem ht hm hi', CamItems.starts_getElem ht hm hj',
      ← Bool.not_eq_true, startsShare_iff (shift_lt _) (k.startOf_lt j)] at clear
    exact clear hshare
  · intro h a ha b hb
    obtain ⟨i, hi, rfl⟩ := List.getElem_of_mem ha
    obtain ⟨j, hj, rfl⟩ := List.getElem_of_mem hb
    rw [CamItems.starts_getElem ht hm hi, CamItems.starts_getElem ht hm hj,
      ← Bool.not_eq_true, startsShare_iff (shift_lt _) (k.startOf_lt j)]
    exact h i j (by omega) (by omega)

end Shared

/-! ### Each check, and the first that fails -/

theorem failUnless_eq (code : Nat) (cam : Option Cam) (check : Bool) :
    failUnless code cam check = if check = true then none else some (code, cam) := rfl

theorem Items.mem_enabledCams (x : Items) (c : Cam) : c ∈ x.enabledCams ↔ (x.cam.get c).enable = true := by
  have hall : c ∈ Cam.all := by cases c <;> decide
  simp [Items.enabledCams, hall]

theorem Items.eachEnabled_eq_none {x : Items} {code : Nat} {check : CamItems → Bool} :
    x.eachEnabled code check = none ↔ ∀ c : Cam, (x.cam.get c).enable = true → check (x.cam.get c) = true := by
  simp [Items.eachEnabled, List.find?_eq_none, Items.mem_enabledCams]

/-- The cams come in ascending order of their index. -/
theorem Cam.all_pairwise : Cam.all.Pairwise (fun a b => a.index < b.index) := by decide

theorem Items.eachEnabled_eq_some {x : Items} {code : Nat} {check : CamItems → Bool} {c : Cam}
    (he : (x.cam.get c).enable = true) (hc : check (x.cam.get c) = false)
    (hb : ∀ b : Cam, b.index < c.index → (x.cam.get b).enable = true → check (x.cam.get b) = true) :
    x.eachEnabled code check = some (code, some c) := by
  have found : x.enabledCams.find? (fun c => !check (x.cam.get c)) = some c := by
    rw [List.find?_eq_some_iff_append]
    refine ⟨by simp [hc], ?_⟩
    obtain ⟨before, after, hsplit⟩ := List.append_of_mem ((x.mem_enabledCams c).2 he)
    refine ⟨before, after, hsplit, fun b hmem => ?_⟩
    have order : x.enabledCams.Pairwise (fun a b => a.index < b.index) := Cam.all_pairwise.filter _
    rw [hsplit, List.pairwise_append] at order
    have enabled : b ∈ x.enabledCams := by rw [hsplit]; exact List.mem_append_left _ hmem
    simp [hb b (order.2.2 b hmem c (List.mem_cons_self ..)) ((x.mem_enabledCams b).1 enabled)]
  simp [Items.eachEnabled, found]

/-- The test that COMMIT makes of one enabled cam's items, by detail code (R154). -/
def CamItems.test (k : CamItems) (g : GlobalItems) : Nat → Bool
  | 3 => inRange 1 4 k.windowCount
  | 4 => k.windowsDisjoint
  | 7 => decide (k.holdCurrent ≤ k.imax ∧ k.releaseCurrent ≤ k.imax)
  | 8 => decide (currentGap k.releaseCurrent k.holdCurrent ≤ k.ilim)
  | 9 => decide (¬ (k.unlockThreshold = 0 ∧ k.unlockCycles = 0))
  | 10 => decide (k.unlockCycles < k.releaseLimit)
  | 11 => decide (k.defaultTarget ≤ k.travel ∧ k.parkBand < k.travel)
  | 12 => decide (g.learnLimit ≤ k.margin)
  | 13 => decide (k.unlockThreshold < k.travel)
  | _ => true

/-- Each test is the check of its code. -/
theorem CamItems.test_iff {k : CamItems} (ht : k.travel ≤ 1280) (hm : k.margin ≤ 160) (hw : k.windowCount ≤ 4)
    (g : GlobalItems) (n : Nat) : k.test g n = true ↔ k.Check g n := by
  unfold CamItems.test CamItems.Check
  split
  case h_1 => exact inRange_iff _ _ _
  case h_2 => exact CamItems.windowsDisjoint_iff ht hm hw
  case h_4 =>
    change decide _ = true ↔ ((k.releaseCurrent : Int) - (k.holdCurrent : Int)).natAbs ≤ k.ilim
    rw [decide_eq_true_iff, currentGap]
    omega
  case h_5 =>
    change decide _ = true ↔ k.unlockThreshold ≠ 0 ∨ k.unlockCycles ≠ 0
    rw [decide_eq_true_iff]
    omega
  case h_10 => simp
  all_goals exact decide_eq_true_iff

/-- The codes of the checks made on each enabled cam in turn. -/
def perCamCodes : List Nat := [3, 4, 7, 8, 9, 10, 11, 12, 13]

/-- What COMMIT's check of one detail code answers. -/
def Items.verdict (x : Items) (n : Nat) : Option (Nat × Option Cam) :=
  match n with
  | 1 => failUnless 1 none (!x.enabledCams.isEmpty)
  | 2 => failUnless 2 (some x.global.referenceCam) (x.cam.get x.global.referenceCam).enable
  | 5 => failUnless 5 (some x.global.referenceCam) (x.cam.get x.global.referenceCam).halvesDistinct
  | 6 => failUnless 6 none (decide (x.global.suppressRpm < x.global.releaseRpm))
  | n => x.eachEnabled n (fun k => k.test x.global n)

/-- The checks of COMMIT are those of the codes 1 to 13, in order (R154). -/
theorem Items.checks_eq (x : Items) : x.checks = (List.range' 1 13).map x.verdict := rfl

section Verdict

variable {x : Items} (hx : x.Lawful)
include hx

theorem Items.Lawful.test_iff (c : Cam) (n : Nat) :
    (x.cam.get c).test x.global n = true ↔ (x.cam.get c).Check x.global n :=
  CamItems.test_iff (hx.travel c).2 (hx.margin c) (hx.windowCount c) _ n

theorem Items.Lawful.verdict_eq_none (n : Nat) : x.verdict n = none ↔ x.Check n := by
  unfold Items.verdict Items.Check
  split
  case h_1 =>
    simp [failUnless_eq, List.eq_nil_iff_forall_not_mem, Items.mem_enabledCams]
  case h_2 => simp [failUnless_eq]
  case h_3 =>
    refine Iff.trans ?_ (CamItems.halvesDistinct_iff (hx.travel _).2 (hx.margin _) (hx.windowCount _))
    simp [failUnless_eq]
  case h_4 => simp [failUnless_eq]
  case h_5 => simp only [Items.eachEnabled_eq_none, hx.test_iff]

theorem Items.Lawful.verdict_eq_some {n : Nat} {cam : Option Cam} (hn : ¬ x.Check n) (hr : x.Reports n cam) :
    x.verdict n = some (n, cam) := by
  have fails : x.verdict n ≠ none := fun h => hn ((hx.verdict_eq_none n).1 h)
  unfold Items.verdict Items.Reports at *
  split at fails
  case h_1 => rw [failUnless_eq] at fails ⊢; rw [if_neg (by simpa using fails), hr]
  case h_2 => rw [failUnless_eq] at fails ⊢; rw [if_neg (by simpa using fails), hr]
  case h_3 => rw [failUnless_eq] at fails ⊢; rw [if_neg (by simpa using fails), hr]
  case h_4 => rw [failUnless_eq] at fails ⊢; rw [if_neg (by simpa using fails), hr]
  case h_5 h1 h2 h5 h6 =>
    split at hr
    · exact absurd rfl h1
    · exact absurd rfl h6
    · exact absurd rfl h2
    · exact absurd rfl h5
    · obtain ⟨c, rfl, he, hc, hb⟩ := hr
      refine Items.eachEnabled_eq_some he ?_ fun b hlt hbe => (hx.test_iff b _).2 (hb b hlt hbe)
      rw [← Bool.not_eq_true, hx.test_iff]
      exact hc

theorem Items.Lawful.validate_eq_none : x.validate = none ↔ ∀ n, 1 ≤ n → n ≤ 13 → x.Check n := by
  simp only [Items.validate, Items.checks_eq, List.findSome?_eq_none_iff, List.mem_map, List.mem_range'_1, id]
  constructor
  · intro h n h1 h2
    exact (hx.verdict_eq_none n).1 (h _ ⟨n, ⟨h1, by omega⟩, rfl⟩)
  · rintro h _ ⟨n, ⟨h1, h2⟩, rfl⟩
    exact (hx.verdict_eq_none n).2 (h n h1 (by omega))

/-- The first check that fails is the one reported. -/
theorem Items.Lawful.validate_eq_some {n : Nat} {cam : Option Cam} (h1 : 1 ≤ n) (h13 : n ≤ 13)
    (hbefore : ∀ m, 1 ≤ m → m < n → x.Check m) (hn : ¬ x.Check n) (hr : x.Reports n cam) :
    x.validate = some (n, cam) := by
  have split13 : List.range' 1 13 = List.range' 1 (n - 1) ++ n :: List.range' (n + 1) (13 - n) := by
    obtain ⟨m, rfl⟩ : ∃ m, n = m + 1 := ⟨n - 1, by omega⟩
    rw [show (13 : Nat) = m + (1 + (12 - m)) by omega, ← List.range'_append_1, ← List.range'_append_1]
    simp [Nat.add_comm]
    omega
  rw [Items.validate, Items.checks_eq, split13, List.map_append, List.map_cons, List.findSome?_append,
    List.findSome?_cons]
  have none_before : ((List.range' 1 (n - 1)).map x.verdict).findSome? id = none := by
    simp only [List.findSome?_eq_none_iff, List.mem_map, List.mem_range'_1, id]
    rintro _ ⟨m, ⟨hm1, hm2⟩, rfl⟩
    exact (hx.verdict_eq_none m).2 (hbefore m hm1 (by omega))
  rw [none_before, hx.verdict_eq_some hn hr]
  rfl

/-- What COMMIT accepted holds of an enabled cam. -/
theorem Items.Lawful.check_cam (hv : x.validate = none) {c : Cam} (hc : (x.cam.get c).enable = true) {n : Nat}
    (hn : n ∈ perCamCodes) : (x.cam.get c).Check x.global n := by
  have passes : x.Check n := by
    refine hx.validate_eq_none.1 hv n ?_ ?_
    all_goals simp only [perCamCodes, List.mem_cons, List.not_mem_nil, or_false] at hn; omega
  simp only [perCamCodes, List.mem_cons, List.not_mem_nil, or_false] at hn
  rcases hn with rfl | rfl | rfl | rfl | rfl | rfl | rfl | rfl | rfl
  all_goals exact passes c hc

end Verdict

end Sys2Proof.Machine

/-! ## What a part of the state may change, and what soundness then asks -/

namespace Sys2Proof.Machine

/-! ### Operations on the cams alone -/

/-- `u` differs from `s` in the cams' blocks, the table, the counters and the notices alone. -/
def CamsMove (s u : State) : Prop :=
  u = { s with cams := u.cams, table := u.table, counters := u.counters, notices := u.notices }

namespace CamsMove

variable {s u v : State}

theorem refl (s : State) : CamsMove s s := rfl

theorem trans (h : CamsMove s u) (k : CamsMove u v) : CamsMove s v := by
  unfold CamsMove at *
  rw [k, h]

theorem eq (h : CamsMove s u) :
    u = { s with cams := u.cams, table := u.table, counters := u.counters, notices := u.notices } := h

theorem mode (h : CamsMove s u) : u.mode = s.mode := by rw [h.eq]
theorem items (h : CamsMove s u) : u.items = s.items := by rw [h.eq]
theorem tracker (h : CamsMove s u) : u.tracker = s.tracker := by rw [h.eq]
theorem parkLine (h : CamsMove s u) : u.parkLine = s.parkLine := by rw [h.eq]
theorem told (h : CamsMove s u) : u.told = s.told := by rw [h.eq]
theorem lagging (h : CamsMove s u) : u.lagging = s.lagging := by rw [h.eq]
theorem timebase (h : CamsMove s u) : u.timebase = s.timebase := by rw [h.eq]
theorem link (h : CamsMove s u) : u.link = s.link := by rw [h.eq]
theorem cfg (h : CamsMove s u) (c : Cam) : u.cfg c = s.cfg c := congrArg (fun x => x.cam.get c) h.items

end CamsMove

theorem LocalTo.camsMove {c : Cam} {s u : State} (h : LocalTo c s u) : CamsMove s u := by
  unfold CamsMove
  rw [h]

/-- An operation on each cam moves the cams alone, if each of its parts does. -/
theorem CamsMove.eachCam {s : State} {f : Cam → State → State} (h : ∀ c u, CamsMove u (f c u)) :
    CamsMove s (s.eachCam f) :=
  (((h .fi _).trans (h .fe _)).trans (h .ri _)).trans (h .re _)

/-- An operation made on each cam, local to it, takes each cam's blocks as it would alone. -/
theorem State.eachCam_cam {s : State} {f : Cam → State → State} {g : Cam → CamState → CamState}
    (hlocal : ∀ c u, LocalTo c u (f c u))
    (hcam : ∀ c u, CamsMove s u → (f c u).cam c = g c (u.cam c)) (c : Cam) :
    (s.eachCam f).cam c = g c (s.cam c) := by
  have m1 := (hlocal .fi s).camsMove
  have m2 := m1.trans (hlocal .fe _).camsMove
  have m3 := m2.trans (hlocal .ri _).camsMove
  rw [State.eachCam_eq]
  cases c
  · rw [(hlocal .re _).cam_ne (b := .fi) nofun, (hlocal .ri _).cam_ne (b := .fi) nofun,
      (hlocal .fe _).cam_ne (b := .fi) nofun, hcam _ _ (.refl s)]
  · rw [(hlocal .re _).cam_ne (b := .fe) nofun, (hlocal .ri _).cam_ne (b := .fe) nofun, hcam _ _ m1,
      (hlocal .fi _).cam_ne (b := .fe) nofun]
  · rw [(hlocal .re _).cam_ne (b := .ri) nofun, hcam _ _ m2, (hlocal .fe _).cam_ne (b := .ri) nofun,
      (hlocal .fi _).cam_ne (b := .ri) nofun]
  · rw [hcam _ _ m3, (hlocal .ri _).cam_ne (b := .re) nofun, (hlocal .fe _).cam_ne (b := .re) nofun,
      (hlocal .fi _).cam_ne (b := .re) nofun]

/-- What each cam's part keeps of every state, the whole keeps. -/
theorem State.eachCam_keeps {P : State → Prop} {f : Cam → State → State} (h : ∀ c u, P u → P (f c u))
    {s : State} (hs : P s) : P (s.eachCam f) :=
  h .re _ (h .ri _ (h .fe _ (h .fi _ hs)))

/-- A state with one cam's blocks, the table, the counters and the notices replaced. -/
theorem localTo_of_eq {c : Cam} {s u : State} {k : CamState} {t : List Slot} {n : Counters} {m : BitVec 16}
    (h : u = { s with cams := s.cams.set c k, table := t, counters := n, notices := m }) : LocalTo c s u := by
  subst h
  simp [LocalTo, State.cam]

/-! ### Soundness beside the cams -/

theorem State.enabled_iff (s : State) (c : Cam) : s.enabled c = true ↔ (s.cam c).phaser.state ≠ .disabled :=
  decide_eq_true_iff

theorem State.enabled_eq_false (s : State) (c : Cam) :
    s.enabled c = false ↔ (s.cam c).phaser.state = .disabled := by
  rw [← Bool.not_eq_true, s.enabled_iff, not_not]

/-- A cam's soundness reads its own blocks, the mode, the items, the park line, whether its sequencer was told,
and whether the tracker is in ENGINE_SYNC: a gain of ENGINE_SYNC leaves it sound. -/
theorem CamSound.congr {s u : State} {c : Cam} (hmode : u.mode = s.mode) (hitems : u.items = s.items)
    (hengine : s.tracker.sync.isEngine = true → u.tracker.sync.isEngine = true)
    (hline : u.parkLine = s.parkLine) (htold : u.told.get c = s.told.get c) (hcam : u.cam c = s.cam c)
    (h : CamSound s c) : CamSound u c := by
  have hout : u.tracker.sync.isEngine = false → s.tracker.sync.isEngine = false := fun hu =>
    Bool.eq_false_iff.2 fun hs => by rw [hengine hs] at hu; cases hu
  have henabled : u.enabled c = s.enabled c := by rw [State.enabled, State.enabled, hcam]
  have hcfg : u.cfg c = s.cfg c := congrArg (fun x => x.cam.get c) hitems
  constructor
  · obtain ⟨geometry, run, valid, offset, config, out, dead⟩ := h.lane
    simp only [LaneSound, hcam, henabled, hcfg, hmode, hitems]
    exact ⟨geometry, run, fun hv => ⟨hengine (valid hv).1, (valid hv).2⟩, offset, config,
      fun hu => out (hout hu), dead⟩
  · obtain ⟨target, suppressed, cleared, dead⟩ := h.arbiter
    simp only [ArbiterSound, hcam, henabled, hcfg]
    exact ⟨target, suppressed, fun hu => cleared (hu.imp_right hout), dead⟩
  · obtain ⟨enabled, causes, forced, service, moving, learn, rest⟩ := h.sequencer
    simp only [SequencerSound, hcam, henabled, hcfg, hmode, hline, htold]
    exact ⟨enabled, causes, forced, service, fun hq => hengine (moving hq),
      fun hl => ⟨(learn hl).1, hengine (learn hl).2.1, (learn hl).2.2⟩, rest⟩
  · simpa only [LoopSound, hcam, hcfg] using h.loop
  · simpa only [CommandSound, hcam, hcfg] using h.command
  · simpa only [ChannelSound, hcam, hline, hitems] using h.channel

/-- A record's soundness reads which cams are enabled. -/
theorem Record.Sound.congr {r : Record} {s u : State} (he : ∀ c, u.enabled c = s.enabled c) (h : r.Sound s) :
    r.Sound u := by
  simpa only [Record.Sound, he] using h

theorem TableSound.same {s u : State} (h : TableSound s) (ht : u.table = s.table) (hm : u.mode = s.mode)
    (he : ∀ c, u.enabled c = s.enabled c) : TableSound u := by
  obtain ⟨length, slots⟩ := h
  refine ⟨ht ▸ length, fun x hx => ?_⟩
  obtain ⟨generation, config, records⟩ := slots x (ht ▸ hx)
  exact ⟨generation, hm ▸ config, fun r hr => (records r hr).congr he⟩

theorem OutcomesSound.same {s u : State} (h : OutcomesSound s) (ht : u.table = s.table)
    (he : u.tracker.sync.isEngine = false → s.tracker.sync.isEngine = false)
    (hf : ∀ c : Cam, (u.cam c).phaser.state = .fault → (s.cam c).phaser.state = .fault) : OutcomesSound u :=
  fun x hx r hr c hc => h x (ht ▸ hx) r hr c (hc.imp he (hf c))

/-- A change of the tracker, the counters, the notices, the mask, the time and the model's own fields keeps
soundness if the tracker and the counters stay sound and ENGINE_SYNC is not lost. -/
theorem Sound.besides {s : State} (hs : Sound s) {y : Tracker} {k : Counters} {n m : BitVec 16} {t f : Nat}
    {l : PerCam Bool} {p : List Instr}
    (hy : TrackerSound { s with tracker := y, now := t })
    (hconfig : s.mode = .config → y = ⟨.stopped, 0⟩)
    (hengine : s.tracker.sync.isEngine = true → y.sync.isEngine = true)
    (hk : CountersSound { s with counters := k }) :
    Sound { s with
      tracker := y, counters := k, notices := n, mask := m, now := t, fresh := f, lagging := l
      pending := p } where
  items := hs.items
  mode := ⟨fun h => ⟨hconfig h, (hs.mode.1 h).2⟩, hs.mode.2⟩
  tracker := hy
  table := hs.table.same rfl rfl fun _ => rfl
  outcomes := hs.outcomes.same rfl
    (fun hu => Bool.eq_false_iff.2 fun h => by have := hengine h; simp_all) fun _ h => h
  cams := fun c => (hs.cams c).congr (s := s) rfl rfl hengine rfl rfl rfl
  parkLine := hs.parkLine
  link := hs.link
  counters := hk

theorem TrackerSound.later {s : State} (h : TrackerSound s) {t : Nat} (ht : s.now ≤ t) :
    TrackerSound { s with now := t } := by
  obtain ⟨speed, h⟩ := h
  refine ⟨speed, ?_⟩
  cases hy : s.tracker.sync with
  | stopped => simpa [hy] using h
  | seeking q =>
    simp only [hy] at h ⊢
    exact ⟨h.1, h.2.1, h.2.2.trans ht⟩
  | crankSync k =>
    simp only [hy, Tooth.Sound] at h ⊢
    obtain ⟨⟨position, low, high, pitch, last⟩, angle⟩ := h
    exact ⟨⟨position, low, high, pitch, last.trans ht⟩, angle⟩
  | engineSync k y =>
    simp only [hy, Tooth.Sound] at h ⊢
    obtain ⟨⟨position, low, high, pitch, last⟩, rest⟩ := h
    exact ⟨⟨position, low, high, pitch, last.trans ht⟩, rest⟩

/-- Time passes. -/
theorem Sound.later {s : State} (hs : Sound s) {t : Nat} (ht : s.now ≤ t) : Sound { s with now := t } :=
  hs.besides (hs.tracker.later ht) (fun h => (hs.mode.1 h).1) (fun h => h) hs.counters

theorem Sound.with_pending {s : State} (hs : Sound s) (p : List Instr) : Sound { s with pending := p } :=
  hs.besides hs.tracker (fun h => (hs.mode.1 h).1) (fun h => h) hs.counters

theorem Sound.notify {s : State} (hs : Sound s) (n : Notice) : Sound (s.notify n) :=
  hs.besides hs.tracker (fun h => (hs.mode.1 h).1) (fun h => h) hs.counters

theorem Sound.with_counters {s : State} (hs : Sound s) {k : Counters}
    (hk : CountersSound { s with counters := k }) : Sound { s with counters := k } :=
  hs.besides hs.tracker (fun h => (hs.mode.1 h).1) (fun h => h) hk

theorem Sound.setTracker {s : State} (hs : Sound s) {y : Sync} {v : Nat} (hm : s.mode = .run)
    (hy : TrackerSound (s.setTracker y v))
    (hengine : s.tracker.sync.isEngine = true → y.isEngine = true) : Sound (s.setTracker y v) :=
  hs.besides hy (fun h => by rw [hm] at h; cases h) hengine hs.counters

/-! ### Counters -/

/-- A counter written with a value that fits 16 bits. -/
theorem CountersSound.put {s : State} (h : CountersSound s) (k : Counter) {n : Nat} (hn : n ≤ 65535) :
    CountersSound { s with counters := s.counters.put k n } := by
  refine ⟨fun i => ?_, ?_⟩
  · by_cases hi : i = k
    · subst hi
      rw [Counters.get_put_self]
      exact hn
    · rw [Counters.get_put_ne _ hi]
      exact h.1 i
  · rw [Counters.put_cycles]
    exact h.2

theorem CountersSound.count {s : State} (h : CountersSound s) (k : Counter) : CountersSound (s.count k) :=
  h.put k (counterNext_le _ _)

theorem Sound.count {s : State} (hs : Sound s) (k : Counter) : Sound (s.count k) :=
  hs.with_counters (hs.counters.count k)

theorem Sound.countTimes {s : State} (hs : Sound s) (k : Counter) (n : Nat) : Sound (s.countTimes k n) := by
  induction n generalizing s with
  | zero => exact hs
  | succ n ih => exact ih (hs.count k)

theorem Sound.countCycle {s : State} (hs : Sound s) : Sound s.countCycle :=
  hs.with_counters ⟨fun k => hs.counters.1 k, Nat.mod_lt _ (by omega)⟩

/-! ### Soundness of one cam's new blocks -/

theorem LaneSound.set {s : State} {c : Cam} {k : CamState} (h : LaneSound s c) (hl : k.lane = (s.cam c).lane)
    (he : k.phaser.state = .disabled ↔ (s.cam c).phaser.state = .disabled) : LaneSound (s.setCam c k) c := by
  have henabled : (s.setCam c k).enabled c = s.enabled c := by
    rw [State.enabled, State.setCam_cam_self]
    exact decide_eq_decide.2 (not_congr he)
  simpa only [LaneSound, henabled, State.setCam_cam_self, State.setCam_cfg, State.setCam_items,
    State.setCam_mode, State.setCam_tracker, hl] using h

theorem ArbiterSound.set {s : State} {c : Cam} {k : CamState} (h : ArbiterSound s c)
    (ha : k.arbiter = (s.cam c).arbiter) (hf : k.phaser.state = .fault → (s.cam c).phaser.state = .fault)
    (he : k.phaser.state = .disabled → (s.cam c).phaser.state = .disabled) : ArbiterSound (s.setCam c k) c := by
  obtain ⟨target, suppressed, cleared, dead⟩ := h
  simp only [ArbiterSound, State.enabled_eq_false, State.setCam_cam_self, State.setCam_cfg,
    State.setCam_tracker, ha] at dead ⊢
  exact ⟨target, suppressed, fun hu => cleared (hu.imp_left hf), fun hu => dead (he hu)⟩

theorem SequencerSound.set {s : State} {c : Cam} {k : CamState} (h : SequencerSound s c)
    (hq : k.phaser = (s.cam c).phaser) : SequencerSound (s.setCam c k) c := by
  simpa only [SequencerSound, State.enabled, State.setCam_cam_self, State.setCam_cfg, State.setCam_mode,
    State.setCam_tracker, State.setCam_parkLine, State.setCam_told, hq] using h

theorem LoopSound.set {s : State} {c : Cam} {k : CamState} (h : LoopSound s c) (hl : k.loop = (s.cam c).loop)
    (ht : (s.cam c).phaser.state = .tracking → k.phaser.state = .tracking) : LoopSound (s.setCam c k) c := by
  obtain ⟨ramped, integrator, still⟩ := h
  simp only [LoopSound, State.setCam_cam_self, State.setCam_cfg, hl]
  exact ⟨ramped, integrator, fun hu => still fun hs => hu (ht hs)⟩

theorem CommandSound.set {s : State} {c : Cam} {k : CamState} (h : CommandSound s c)
    (hh : k.channel.command = (s.cam c).channel.command) (hp : k.phaser.state = (s.cam c).phaser.state) :
    CommandSound (s.setCam c k) c := by
  simpa only [CommandSound, State.setCam_cam_self, State.setCam_cfg, hh, hp] using h

theorem ChannelSound.set {s : State} {c : Cam} {k : CamState} (h : ChannelSound s c)
    (hh : k.channel = (s.cam c).channel) (hf : (s.cam c).phaser.state = .fault → k.phaser.state = .fault) :
    ChannelSound (s.setCam c k) c := by
  obtain ⟨drives, quiet, latched, rest⟩ := h
  simp only [ChannelSound, State.setCam_cam_self, State.setCam_parkLine, State.setCam_items, hh]
  exact ⟨drives, quiet, fun hu => hf (latched hu), rest⟩

/-- An operation local to a cam keeps soundness if the cam's new blocks, the table and the counters are sound. -/
theorem Sound.of_localTo {s u : State} {c : Cam} (hs : Sound s) (h : LocalTo c s u)
    (hcam : CamSound (s.setCam c (u.cam c)) c) (htable : TableSound u) (houtcomes : OutcomesSound u)
    (hcounters : CountersSound u) : Sound u where
  items := by rw [h.camsMove.items]; exact hs.items
  mode := by rw [h]; exact hs.mode
  tracker := by rw [h]; exact hs.tracker
  table := htable
  outcomes := houtcomes
  cams := fun b => by
    have m := h.camsMove
    have engine : s.tracker.sync.isEngine = true → u.tracker.sync.isEngine = true := by rw [m.tracker]; exact id
    by_cases hb : b = c
    · subst hb
      exact hcam.congr (s := s.setCam b (u.cam b)) m.mode m.items engine m.parkLine (by rw [m.told]; rfl) (by simp)
    · exact (hs.cams b).congr m.mode m.items engine m.parkLine (by rw [m.told]) (h.cam_ne hb)
  parkLine := by rw [h]; exact hs.parkLine
  link := by rw [h]; exact hs.link
  counters := hcounters

/-- An operation local to a cam moves no other cam between enabled and DISABLED. -/
theorem LocalTo.enabled {s u : State} {c : Cam} (h : LocalTo c s u)
    (he : (u.cam c).phaser.state = .disabled ↔ (s.cam c).phaser.state = .disabled) (b : Cam) :
    u.enabled b = s.enabled b := by
  by_cases hb : b = c
  · subst hb
    simp only [State.enabled, ne_eq, he]
  · rw [State.enabled, State.enabled, h.cam_ne hb]

/-- An operation local to a cam that leaves the table. -/
theorem Sound.of_localTo_table {s u : State} {c : Cam} (hs : Sound s) (h : LocalTo c s u)
    (hcam : CamSound (s.setCam c (u.cam c)) c) (ht : u.table = s.table)
    (he : (u.cam c).phaser.state = .disabled ↔ (s.cam c).phaser.state = .disabled)
    (hf : (u.cam c).phaser.state = .fault → (s.cam c).phaser.state = .fault)
    (hcounters : CountersSound u) : Sound u := by
  refine hs.of_localTo h hcam (hs.table.same ht h.camsMove.mode (h.enabled he))
    (hs.outcomes.same ht (by rw [h.camsMove.tracker]; exact id) fun b hb => ?_) hcounters
  by_cases hbc : b = c
  · subst hbc
    exact hf hb
  · rwa [h.cam_ne hbc] at hb

end Sys2Proof.Machine

/-! ## Channels, outcomes and faults of a sound state (R48, R87, R109, R136, R140) -/

namespace Sys2Proof.Machine

/-! ### A channel's bounds -/

/-- An OFF output is quiet (R140), the duty is a proportion, and the open-load run has not qualified (R143). -/
def Channel.Bounded (h : Channel) (hz : Nat) : Prop :=
  (h.output = .off → h.switchClosed = false ∧ h.duty = 0 ∧ h.limited = false ∧ h.openLoadRun = 0 ∧
    h.wholePeriod = false ∧ h.starting = false) ∧
  h.duty ≤ 1000 ∧ h.openLoadRun < openLoadPeriods hz

/-- The output is DRIVEN exactly under its three conditions (R136). -/
def Channel.Follows (h : Channel) (line : ParkLine) : Prop := h.output = .driven ↔ h.mayDrive line = true

theorem channelSound_iff (s : State) (c : Cam) :
    ChannelSound s c ↔ (s.cam c).channel.Follows s.parkLine ∧ (s.cam c).channel.Bounded s.items.global.pwmHz ∧
      ((s.cam c).channel.latch ≠ .none → (s.cam c).phaser.state = .fault) := by
  simp only [ChannelSound, Channel.Follows, Channel.Bounded]
  tauto

theorem openLoadPeriods_pos {hz : Nat} (h : 100 ≤ hz) : 0 < openLoadPeriods hz := by
  unfold openLoadPeriods; omega

section Follow

variable (h : Channel) (line : ParkLine)

@[simp] theorem Channel.follow_command : (h.follow line).command = h.command := by
  rw [Channel.follow_eq]; split <;> split <;> rfl

@[simp] theorem Channel.follow_latch : (h.follow line).latch = h.latch := by
  rw [Channel.follow_eq]; split <;> split <;> rfl

@[simp] theorem Channel.follow_mean : (h.follow line).mean = h.mean := by
  rw [Channel.follow_eq]; split <;> split <;> rfl

theorem Channel.follow_follows : (h.follow line).Follows line := by
  unfold Channel.Follows
  rw [Channel.mayDrive_iff, Channel.follow_command, Channel.follow_latch, ← Channel.mayDrive_iff,
    Channel.follow_eq]
  cases hm : h.mayDrive line <;> cases ho : h.output <;> simp [ho, Channel.switchOn, Channel.switchOff]

/-- An output that follows its conditions already is left as it is. -/
theorem Channel.Follows.follow_eq {h : Channel} {line : ParkLine} (hf : h.Follows line) : h.follow line = h := by
  rw [Channel.follow_eq]
  unfold Channel.Follows at hf
  by_cases hm : h.mayDrive line = true
  · rw [if_pos hm, if_pos (hf.2 hm)]
  · rw [if_neg hm, if_neg (mt hf.1 hm)]

end Follow

theorem Channel.Bounded.follow {h : Channel} {hz : Nat} (hb : h.Bounded hz) (line : ParkLine) :
    (h.follow line).Bounded hz := by
  obtain ⟨quiet, duty, run⟩ := hb
  rw [Channel.follow_eq]
  split
  · split
    · exact ⟨quiet, duty, run⟩
    · refine ⟨?_, ?_, run⟩ <;> simp [Channel.switchOn]
  · split
    · exact ⟨fun _ => ⟨rfl, rfl, rfl, rfl, rfl, rfl⟩, Nat.zero_le _, Nat.zero_lt_of_lt run⟩
    · exact ⟨quiet, duty, run⟩

theorem Channel.write_command (h : Channel) (line : ParkLine) (mA : Nat) : (h.write line mA).command = mA := by
  unfold Channel.write
  split
  next same => exact same.symm
  next => rw [Channel.follow_command]

@[simp] theorem Channel.write_latch (h : Channel) (line : ParkLine) (mA : Nat) :
    (h.write line mA).latch = h.latch := by
  unfold Channel.write
  split
  · rfl
  · rw [Channel.follow_latch]

theorem Channel.Follows.write {h : Channel} {line : ParkLine} (hf : h.Follows line) (mA : Nat) :
    (h.write line mA).Follows line := by
  unfold Channel.write
  split
  · exact hf
  · exact Channel.follow_follows _ _

theorem Channel.Bounded.write {h : Channel} {hz : Nat} (hb : h.Bounded hz) (line : ParkLine) (mA : Nat) :
    (h.write line mA).Bounded hz := by
  unfold Channel.write
  split
  · exact hb
  · obtain ⟨quiet, duty, run⟩ := hb
    refine Channel.Bounded.follow (h := { h with
      command := mA, openLoadRun := if mA < 100 then 0 else h.openLoadRun }) ⟨fun ho => ?_, duty, ?_⟩ line
    · obtain ⟨hs, hd, hl, hr, hw, ht⟩ := quiet ho
      exact ⟨hs, hd, hl, by dsimp only; split <;> first | rfl | exact hr, hw, ht⟩
    · dsimp only
      split
      · exact Nat.zero_lt_of_lt run
      · exact run

theorem Channel.Bounded.latchFault {h : Channel} {hz : Nat} (hb : h.Bounded hz) (line : ParkLine) (fault : Latch) :
    (h.latchFault line fault).Bounded hz :=
  Channel.Bounded.follow (h := { h with latch := fault }) hb line

theorem ChannelSound.write {s : State} {c : Cam} {k : CamState} (h : ChannelSound s c) {mA : Nat}
    (hk : k.channel = (s.cam c).channel.write s.parkLine mA)
    (hf : (s.cam c).phaser.state = .fault → k.phaser.state = .fault) : ChannelSound (s.setCam c k) c := by
  obtain ⟨follows, bounded, latched⟩ := (channelSound_iff s c).1 h
  rw [channelSound_iff, State.setCam_cam_self, hk]
  exact ⟨follows.write mA, bounded.write _ mA, fun hl => hf (latched (by simpa using hl))⟩

theorem CommandSound.write {s : State} {c : Cam} {k : CamState} {mA : Nat}
    (hk : k.channel = (s.cam c).channel.write s.parkLine mA) (hmax : mA ≤ (s.cfg c).imax)
    (hr : k.phaser.state = .releasing → mA = (s.cfg c).releaseCurrent)
    (h0 : k.phaser.state ≠ .releasing → k.phaser.state ≠ .tracking → mA = 0) :
    CommandSound (s.setCam c k) c := by
  simp only [CommandSound, State.setCam_cam_self, State.setCam_cfg, hk, Channel.write_command]
  exact ⟨hmax, hr, h0⟩

/-! ### What a sound state says of an enabled cam -/

theorem Sound.run_of_enabled {s : State} (hs : Sound s) {c : Cam} (he : s.enabled c = true) : s.mode = .run :=
  ((hs.cams c).sequencer.1.1 he).1

/-- What COMMIT checked holds of an enabled cam. -/
theorem Sound.check {s : State} (hs : Sound s) {c : Cam} (he : s.enabled c = true) {n : Nat}
    (hn : n ∈ perCamCodes) : (s.cfg c).Check s.items.global n :=
  hs.items.check_cam (hs.mode.2.1 (hs.run_of_enabled he)).2.2.2 ((hs.cams c).sequencer.1.1 he).2 hn

theorem Sound.currents_le {s : State} (hs : Sound s) {c : Cam} (he : s.enabled c = true) :
    (s.cfg c).holdCurrent ≤ (s.cfg c).imax ∧ (s.cfg c).releaseCurrent ≤ (s.cfg c).imax :=
  hs.check he (n := 7) (by decide)

theorem Sound.preset_le {s : State} (hs : Sound s) {c : Cam} (he : s.enabled c = true) :
    (((s.cfg c).releaseCurrent : Int) - (s.cfg c).holdCurrent).natAbs ≤ (s.cfg c).ilim :=
  hs.check he (n := 8) (by decide)

theorem State.enabled_of_state {s : State} {c : Cam} {st : PhaserState} (h : (s.cam c).phaser.state = st)
    (hst : st ≠ .disabled) : s.enabled c = true := by
  rw [State.enabled_iff, h]
  exact hst

/-! ### Outcomes written -/

/-- An outcome may stand in a record: the clipped flag on WINNING and CONTRIBUTING alone (R48). -/
def Outcome.Fits (o : Outcome) : Prop := o.clipped = true → o.standing = .winning ∨ o.standing = .contributing

theorem Outcome.fresh_fits : Outcome.fresh.Fits := nofun

theorem Record.write_outcome (r : Record) (c b : Cam) (o : Outcome) :
    (r.write c o).outcomes.get b = if b = c ∧ r.cams.get c = true then o else r.outcomes.get b := by
  unfold Record.write
  by_cases hc : r.cams.get c = true
  · rw [if_pos hc]
    simp only [PerCam.get_set, hc, and_true]
  · rw [if_neg hc, if_neg fun h => hc h.2]

theorem Record.write_eq (r : Record) (c : Cam) (o : Outcome) :
    r.write c o = { r with outcomes := (r.write c o).outcomes } := by
  unfold Record.write
  split <;> rfl

theorem Record.Sound.write {r : Record} {s : State} (h : r.Sound s) (c : Cam) {o : Outcome} (ho : o.Fits) :
    (r.write c o).Sound s := by
  obtain ⟨owner, rank, values, lifetime, remaining, band, cap, cams, entries⟩ := h
  rw [Record.write_eq]
  refine ⟨owner, rank, values, lifetime, remaining, band, cap, cams, fun b => ?_⟩
  obtain ⟨enabled, outside, clipped⟩ := entries b
  dsimp only
  rw [Record.write_outcome]
  split
  next hw =>
    obtain ⟨rfl, hc⟩ := hw
    exact ⟨enabled, fun h => absurd hc (by simp [h]), ho⟩
  next => exact ⟨enabled, outside, clipped⟩

theorem mapEntriesFrom_length (f : Nat → Record → Record) (n : Nat) (t : List Slot) :
    (mapEntriesFrom f n t).length = t.length := by
  induction t generalizing n with
  | nil => rfl
  | cons x rest ih => simp [mapEntriesFrom, ih]

theorem mapRecords_eq_mapEntriesFrom (f : Record → Record) (t : List Slot) (n : Nat) :
    mapRecords f t = mapEntriesFrom (fun _ => f) n t := by
  apply List.ext_getElem?
  intro i
  rw [mapRecords_getElem?, mapEntriesFrom_getElem?]

theorem mem_mapEntriesFrom {f : Nat → Record → Record} {t : List Slot} {x : Slot}
    (h : x ∈ mapEntriesFrom f 0 t) : ∃ i, ∃ z ∈ t, x = { z with record := z.record.map (f i) } := by
  obtain ⟨i, hi⟩ := List.mem_iff_getElem?.1 h
  rw [mapEntriesFrom_getElem?, Option.map_eq_some_iff] at hi
  obtain ⟨z, hz, rfl⟩ := hi
  exact ⟨0 + i, z, List.mem_of_getElem? hz, rfl⟩

/-- A table in which one cam's outcomes are written stays sound. -/
theorem TableSound.write {s u : State} (h : TableSound s) {c : Cam} {o : Nat → Record → Outcome}
    (ht : u.table = mapEntriesFrom (fun i r => r.write c (o i r)) 0 s.table) (ho : ∀ i r, (o i r).Fits)
    (hm : u.mode = s.mode) (he : ∀ c, u.enabled c = s.enabled c) : TableSound u := by
  obtain ⟨length, slots⟩ := h
  refine ⟨by rw [ht, mapEntriesFrom_length]; exact length, fun x hx => ?_⟩
  obtain ⟨i, z, hz, rfl⟩ := mem_mapEntriesFrom (ht ▸ hx)
  obtain ⟨generation, config, records⟩ := slots z hz
  refine ⟨generation, fun hu => by simp [config (hm ▸ hu)], fun r hr => ?_⟩
  obtain ⟨r0, hr0, rfl⟩ := Option.map_eq_some_iff.1 hr
  exact ((records r0 hr0).write c (ho i r0)).congr he

/-- The outcomes written for a cam are PENDING where its arbitration is withdrawn (R87, R88). -/
theorem OutcomesSound.write {s u : State} (h : OutcomesSound s) {c : Cam} {o : Nat → Record → Outcome}
    (ht : u.table = mapEntriesFrom (fun i r => r.write c (o i r)) 0 s.table)
    (htable : TableSound s)
    (ho : (u.tracker.sync.isEngine = false ∨ (u.cam c).phaser.state = .fault) → ∀ i r, o i r = .fresh)
    (he : u.tracker.sync.isEngine = false → s.tracker.sync.isEngine = false)
    (hf : ∀ b : Cam, b ≠ c → (u.cam b).phaser.state = .fault → (s.cam b).phaser.state = .fault) :
    OutcomesSound u := by
  intro x hx r hr b hb
  obtain ⟨i, z, hz, rfl⟩ := mem_mapEntriesFrom (ht ▸ hx)
  obtain ⟨r0, hr0, rfl⟩ := Option.map_eq_some_iff.1 hr
  rw [Record.write_outcome]
  split
  next hw =>
    obtain ⟨rfl, -⟩ := hw
    exact ho hb i r0
  next hw =>
    by_cases hbc : b = c
    · subst hbc
      obtain ⟨-, -, -, -, -, -, -, -, entries⟩ := (htable.2 z hz).2.2 r0 hr0
      exact (entries b).2.1 (by simpa using hw)
    · exact h z hz r0 hr0 b (hb.imp he (hf b hbc))

/-! ### A cam stood down -/

theorem Sequencer.aborted_samples (q : Sequencer) : q.aborted.samples = q.samples := rfl

theorem SequencerSound.stood {s : State} {c : Cam} (hs : Sound s) (he : s.enabled c = true) {k : CamState}
    {st : PhaserState} {x : CauseSet} {n : Nat} {result : LearnResult}
    (hq : k.phaser = { (s.cam c).phaser with
      state := st, causes := x, releaseCount := n, parkRun := 0, errorRun := 0, eventSeen := false
      allOver := true, learning := false, lastLearn := result })
    (hd : st ≠ .disabled) (hr : st ≠ .releasing) (ht : st ≠ .tracking) (hx : x = .empty ↔ st ≠ .fault)
    (hforced : st = .forced → s.parkLine = .asserted)
    (hservice : st.inService = true → s.parkLine = .released ∨ s.told.get c = true) :
    SequencerSound (s.setCam c k) c := by
  obtain ⟨enabled, -, -, -, -, -, samples, -, -, -, -⟩ := (hs.cams c).sequencer
  simp only [SequencerSound, State.enabled_iff, State.setCam_cam_self, State.setCam_cfg, State.setCam_mode,
    State.setCam_tracker, State.setCam_parkLine, State.setCam_told, hq]
  refine ⟨⟨fun _ => enabled.1 he, fun _ => hd⟩, hx, hforced, hservice, fun h => absurd h (by simp [hr, ht]),
    nofun, samples, Nat.zero_le _, hs.items.trackErrCycles c, fun h => absurd h hr,
    by simp⟩

theorem LoopSound.zero {s : State} {c : Cam} {k : CamState} (h : k.loop = ⟨0, 0⟩) :
    LoopSound (s.setCam c k) c := by
  simp only [LoopSound, State.setCam_cam_self, h]
  exact ⟨Nat.zero_le _, Nat.zero_le _, fun _ => rfl⟩

/-- A cleared result is sound, whatever the cam's state (R87, R88). -/
theorem ArbiterSound.clear {s : State} {c : Cam} {k : CamState} (h : ArbiterSound s c)
    (ha : k.arbiter = (s.cam c).arbiter.clear)
    (he : k.phaser.state = .disabled → (s.cam c).phaser.state = .disabled) : ArbiterSound (s.setCam c k) c := by
  obtain ⟨-, -, -, dead⟩ := h
  simp only [ArbiterSound, State.enabled_eq_false, State.setCam_cam_self, ha] at dead ⊢
  refine ⟨Nat.zero_le _, fun _ => ⟨rfl, rfl, .inl rfl⟩, fun _ => rfl, fun hu => ?_⟩
  rw [dead (he hu)]
  rfl

/-! ### Faults -/

theorem State.faulted_cam (s : State) (c : Cam) (cause : Cause) :
    (s.faulted c cause).cam c =
      { lane := (s.cam c).lane
        arbiter := (s.cam c).arbiter.clear
        phaser :=
          { (s.cam c).phaser.aborted with
            state := .fault
            causes := ⟨decide (cause = .signal), decide (cause = .overcurrent), decide (cause = .openLoad),
              decide (cause = .stuck), decide (cause = .following)⟩
            releaseCount := 0, parkRun := 0, errorRun := 0, eventSeen := false, allOver := true }
        loop := ⟨0, 0⟩
        channel := (s.cam c).channel.write s.parkLine 0 } :=
  PerCam.get_set_self _ _ _

theorem State.faulted_table (s : State) (c : Cam) (cause : Cause) :
    (s.faulted c cause).table = mapRecords (fun r => r.write c .fresh) s.table := rfl

theorem State.faultAdded_localTo (s : State) (c : Cam) (cause : Cause) : LocalTo c s (s.faultAdded c cause) :=
  localTo_of_eq rfl

theorem State.faultAdded_cam (s : State) (c : Cam) (cause : Cause) :
    (s.faultAdded c cause).cam c =
      { s.cam c with phaser := { (s.cam c).phaser with causes :=
        { signal := (s.cam c).phaser.causes.signal || decide (cause = .signal)
          overcurrent := (s.cam c).phaser.causes.overcurrent || decide (cause = .overcurrent)
          openLoad := (s.cam c).phaser.causes.openLoad || decide (cause = .openLoad)
          stuck := (s.cam c).phaser.causes.stuck || decide (cause = .stuck)
          following := (s.cam c).phaser.causes.following || decide (cause = .following) } } } :=
  PerCam.get_set_self _ _ _

/-- A first cause makes a set that is not empty. -/
theorem causeSet_ne_empty (cause : Cause) :
    (⟨decide (cause = .signal), decide (cause = .overcurrent), decide (cause = .openLoad),
      decide (cause = .stuck), decide (cause = .following)⟩ : CauseSet) ≠ .empty := by
  cases cause <;> decide

/-- A channel that follows the line and keeps its bounds, in place of a sound cam's own: latched, its fault has yet
to be reported. -/
structure ChannelFits (s : State) (c : Cam) (h : Channel) : Prop where
  follows : h.Follows s.parkLine
  bounded : h.Bounded s.items.global.pwmHz
  command : h.command = (s.cam c).channel.command

theorem Sound.channelFits {s : State} (hs : Sound s) (c : Cam) : ChannelFits s c (s.cam c).channel :=
  let ⟨follows, bounded, _⟩ := (channelSound_iff s c).1 (hs.cams c).channel
  ⟨follows, bounded, rfl⟩

theorem State.setChannel_self (s : State) (c : Cam) : s.setChannel c (s.cam c).channel = s :=
  s.setCam_cam_same c

/-- The entry to FAULT keeps soundness, also where it takes up a driver fault just latched (R109). -/
theorem Sound.faulted {s : State} (hs : Sound s) {c : Cam} (he : s.enabled c = true) {h : Channel}
    (hh : ChannelFits s c h) (cause : Cause) : Sound ((s.setChannel c h).faulted c cause) := by
  have hlocal : LocalTo c s ((s.setChannel c h).faulted c cause) :=
    (s.setCam_localTo c _).trans (State.faulted_localTo _ c cause)
  have henabled : ∀ b, ((s.setChannel c h).faulted c cause).enabled b = s.enabled b :=
    hlocal.enabled (by rw [State.faulted_cam]; simpa [State.enabled_iff] using he)
  have htable : ((s.setChannel c h).faulted c cause).table =
      mapEntriesFrom (fun _ r => r.write c .fresh) 0 s.table :=
    mapRecords_eq_mapEntriesFrom _ _ _
  refine hs.of_localTo hlocal ?_
    (hs.table.write htable (fun _ _ => Outcome.fresh_fits) hlocal.camsMove.mode henabled)
    (hs.outcomes.write htable hs.table (fun _ _ _ => rfl) (by rw [hlocal.camsMove.tracker]; exact id)
      fun b hb => by rw [hlocal.cam_ne hb]; exact id)
    (hs.counters.put _ (counterNext_le _ _))
  rw [State.faulted_cam, State.setChannel_cam_self, State.setChannel_parkLine]
  constructor
  · exact (hs.cams c).lane.set rfl (by simpa [State.enabled_iff] using he)
  · exact (hs.cams c).arbiter.clear rfl nofun
  · exact SequencerSound.stood hs he rfl nofun nofun nofun (by simpa using causeSet_ne_empty cause) nofun nofun
  · exact LoopSound.zero rfl
  · simp only [CommandSound, State.setCam_cam_self, Channel.write_command]
    exact ⟨Nat.zero_le _, nofun, by simp⟩
  · rw [channelSound_iff, State.setCam_cam_self]
    exact ⟨hh.follows.write 0, hh.bounded.write _ 0, by simp⟩

/-- A cause added in FAULT keeps soundness (R110). -/
theorem Sound.faultAdded {s : State} (hs : Sound s) {c : Cam} (hp : (s.cam c).phaser.state = .fault) {h : Channel}
    (hh : ChannelFits s c h) (cause : Cause) : Sound ((s.setChannel c h).faultAdded c cause) := by
  have hlocal : LocalTo c s ((s.setChannel c h).faultAdded c cause) :=
    (s.setCam_localTo c _).trans (State.faultAdded_localTo _ c cause)
  refine hs.of_localTo_table hlocal ?_ rfl (by rw [State.faultAdded_cam]; simp) (by rw [State.faultAdded_cam]; simp)
    (hs.counters.put _ (counterNext_le _ _))
  rw [State.faultAdded_cam, State.setChannel_cam_self]
  constructor
  · exact (hs.cams c).lane.set rfl Iff.rfl
  · exact (hs.cams c).arbiter.set rfl (fun _ => hp) id
  · obtain ⟨enabled, causes, forced, service, rest⟩ := (hs.cams c).sequencer
    simp only [SequencerSound, State.enabled_iff, State.setCam_cam_self, State.setCam_cfg, State.setCam_mode,
      State.setCam_tracker, State.setCam_parkLine, State.setCam_told] at enabled ⊢
    refine ⟨enabled, ?_, forced, service, rest⟩
    rw [hp]
    refine ⟨fun h => absurd h ?_, fun h => absurd rfl h⟩
    cases cause <;> simp [CauseSet.empty]
  · exact (hs.cams c).loop.set rfl id
  · exact (hs.cams c).command.set hh.command rfl
  · rw [channelSound_iff, State.setCam_cam_self]
    exact ⟨hh.follows, hh.bounded, fun _ => hp⟩

/-- A fault report keeps soundness, also of a driver fault just latched (R108 to R110). -/
theorem Sound.setChannel_reportFault {s : State} (hs : Sound s) {c : Cam} (he : s.enabled c = true) {h : Channel}
    (hh : ChannelFits s c h) (cause : Cause) : Sound ((s.setChannel c h).reportFault c cause) := by
  have he' : (s.setChannel c h).enabled c = true := by
    rw [State.enabled_iff] at he ⊢
    rwa [State.setChannel_cam_self]
  rw [State.reportFault_eq he', State.reported, State.setChannel_cam_self]
  split
  next hp => exact hs.faultAdded hp hh cause
  next => exact hs.faulted he hh cause

theorem Sound.reportFault {s : State} (hs : Sound s) (c : Cam) (cause : Cause) : Sound (s.reportFault c cause) := by
  cases he : s.enabled c with
  | false => rwa [State.reportFault_of_disabled he]
  | true => simpa only [State.setChannel_self] using hs.setChannel_reportFault he (hs.channelFits c) cause

end Sys2Proof.Machine

/-! ## Events and marks at the sequencer of a sound state (R95, R96) -/

namespace Sys2Proof.Machine

/-- One cam's blocks replaced by sound ones, with any notices. -/
theorem Sound.of_set {s : State} (hs : Sound s) {c : Cam} {k : CamState} {n : BitVec 16}
    (hcam : CamSound (s.setCam c k) c)
    (he : k.phaser.state = .disabled ↔ (s.cam c).phaser.state = .disabled)
    (hf : k.phaser.state = .fault → (s.cam c).phaser.state = .fault) :
    Sound { s with notices := n, cams := s.cams.set c k } := by
  have hk : State.cam { s with notices := n, cams := s.cams.set c k } c = k := PerCam.get_set_self _ _ _
  exact hs.of_localTo_table (localTo_of_eq rfl) (by rwa [hk]) rfl (by rw [hk]; exact he) (by rw [hk]; exact hf)
    hs.counters

/-- One cam's blocks replaced by sound ones. -/
theorem Sound.setCam {s : State} (hs : Sound s) {c : Cam} {k : CamState} (hcam : CamSound (s.setCam c k) c)
    (he : k.phaser.state = .disabled ↔ (s.cam c).phaser.state = .disabled)
    (hf : k.phaser.state = .fault → (s.cam c).phaser.state = .fault) : Sound (s.setCam c k) :=
  hs.of_set (n := s.notices) hcam he hf

/-! ### Bounds of an update and of a mark -/

theorem ramp_le {r target slew n : Nat} (hr : r ≤ n) (ht : target ≤ n) : ramp r target slew ≤ n := by
  unfold ramp
  split
  · omega
  · split <;> omega

theorem limitCommand_le (k : CamItems) (u : Int) : limitCommand k u ≤ k.imax := by
  unfold limitCommand clampInt
  split
  · omega
  · split <;> omega

/-- The integrator after an update is the one held or the clamped one (R125, R127). -/
theorem settleIntegrator_natAbs_le {k : CamItems} {acc : Int} (h : acc.natAbs ≤ 64 * k.ilim) (e u : Int) :
    (settleIntegrator k acc (tentative k acc e) u e).natAbs ≤ 64 * k.ilim := by
  have clamped : (tentative k acc e).natAbs ≤ 64 * k.ilim := by
    unfold tentative clampInt
    split
    · omega
    · split <;> omega
  unfold settleIntegrator
  split
  · exact h
  · split
    · exact h
    · exact clamped

/-- An update keeps R within TRAVEL, the integrator within its clamp and the command within IMAX. -/
theorem Loop.update_bounds {l : Loop} {k : CamItems} {target : Nat} (hr : l.ramped ≤ k.travel)
    (hi : l.integrator.natAbs ≤ 64 * k.ilim) (ht : target ≤ k.travel) (slew : Nat) (d : Int) :
    (l.update k target slew d).1.ramped ≤ k.travel ∧
      (l.update k target slew d).1.integrator.natAbs ≤ 64 * k.ilim ∧ (l.update k target slew d).2 ≤ k.imax :=
  ⟨ramp_le hr ht, settleIntegrator_natAbs_le hi _ _, limitCommand_le _ _⟩

/-- The entry to FAULT forgets the counts that a mark has just moved. -/
theorem State.faulted_of_counts (s : State) (c : Cam) (cause : Cause) (n m : Nat) (seen allOver : Bool) :
    ({ s with cams := s.cams.set c { s.cam c with phaser := { (s.cam c).phaser with
        releaseCount := n, errorRun := m, eventSeen := seen, allOver := allOver } } } : State).faulted c cause =
      s.faulted c cause := by
  simp only [State.faulted, State.abortNotices, State.cam_of_set, PerCam.set_set, Sequencer.aborted]

/-! ### Release -/

section Moves

variable {s : State} (hs : Sound s) {c : Cam}
include hs

theorem Sound.beginRelease (hp : (s.cam c).phaser.state = .parked) (hengine : s.tracker.sync.isEngine = true) :
    Sound (s.beginRelease c) := by
  have he := State.enabled_of_state hp nofun
  rw [State.beginRelease_eq]
  refine hs.of_set ?_ (by simp [hp]) nofun
  constructor
  · exact (hs.cams c).lane.set rfl (by simp [hp])
  · exact (hs.cams c).arbiter.set rfl nofun nofun
  · obtain ⟨enabled, causes, -, service, -, -, samples, park, error, -, runs⟩ := (hs.cams c).sequencer
    have none : (s.cam c).phaser.causes = .empty := causes.2 (by simp [hp])
    obtain ⟨h1, h2, h3, h4⟩ := runs (by simp [hp])
    simp only [SequencerSound, State.enabled_iff, State.setCam_cam_self, State.setCam_cfg, State.setCam_mode,
      State.setCam_tracker, State.setCam_parkLine, State.setCam_told, Sequencer.aborted]
    exact ⟨⟨fun _ => enabled.1 he, fun _ => nofun⟩, ⟨fun _ => nofun, fun _ => none⟩, nofun,
      fun _ => service (by simp [hp, PhaserState.inService]), fun _ => hengine, nofun, samples, park, error,
      fun _ => hs.items.releaseLimit c, fun _ => ⟨h1, h2, h3, h4⟩⟩
  · exact (hs.cams c).loop.set rfl (by simp [hp])
  · exact CommandSound.write rfl (hs.currents_le he).2 (fun _ => rfl) fun h => absurd rfl h
  · exact (hs.cams c).channel.write rfl (by simp [hp])

theorem Sound.abandonRelease (hp : (s.cam c).phaser.state = .releasing) : Sound (s.abandonRelease c) := by
  have he := State.enabled_of_state hp nofun
  rw [State.abandonRelease_eq]
  refine hs.of_set ?_ (by simp [hp]) nofun
  constructor
  · exact (hs.cams c).lane.set rfl (by simp [hp])
  · exact (hs.cams c).arbiter.set rfl nofun nofun
  · obtain ⟨enabled, causes, -, service, -, learn, samples, park, error, -, runs⟩ := (hs.cams c).sequencer
    have none : (s.cam c).phaser.causes = .empty := causes.2 (by simp [hp])
    have idle : (s.cam c).phaser.learning ≠ true := fun h => by simp [hp] at learn; simp [h] at learn
    obtain ⟨h1, h2, h3, h4⟩ := runs (by simp [hp])
    simp only [SequencerSound, State.enabled_iff, State.setCam_cam_self, State.setCam_cfg, State.setCam_mode,
      State.setCam_tracker, State.setCam_parkLine, State.setCam_told]
    exact ⟨⟨fun _ => enabled.1 he, fun _ => nofun⟩, ⟨fun _ => nofun, fun _ => none⟩, nofun,
      fun _ => service (by simp [hp, PhaserState.inService]), by simp, fun h => absurd h idle, samples, park,
      error, nofun, fun _ => ⟨h1, h2, h3, h4⟩⟩
  · exact (hs.cams c).loop.set rfl (by simp [hp])
  · exact CommandSound.write rfl (Nat.zero_le _) nofun fun _ _ => rfl
  · exact (hs.cams c).channel.write rfl (by simp [hp])

/-- The preset of R102 lies within TRAVEL and the integrator's clamp. -/
theorem Sound.preset_bounds (he : s.enabled c = true) :
    (s.preset c).ramped ≤ (s.cfg c).travel ∧ (s.preset c).integrator.natAbs ≤ 64 * (s.cfg c).ilim := by
  have hgap := hs.preset_le he
  unfold State.preset
  constructor
  · dsimp only; split <;> omega
  · dsimp only; omega

theorem Sound.unlocked (hp : (s.cam c).phaser.state = .releasing) (n : Nat) :
    Sound { s with cams := s.cams.set c { s.cam c with
      phaser := { (s.cam c).phaser.tracks with releaseCount := n }, loop := s.preset c } } := by
  have he := State.enabled_of_state hp nofun
  refine hs.of_set (n := s.notices) ?_ (by simp [hp, Sequencer.tracks]) nofun
  constructor
  · exact (hs.cams c).lane.set rfl (by simp [hp, Sequencer.tracks])
  · exact (hs.cams c).arbiter.set rfl nofun nofun
  · obtain ⟨enabled, causes, -, service, moving, learn, samples, -, -, -, -⟩ := (hs.cams c).sequencer
    have none : (s.cam c).phaser.causes = .empty := causes.2 (by simp [hp])
    have idle : (s.cam c).phaser.learning ≠ true := fun h => by simp [hp] at learn; simp [h] at learn
    simp only [SequencerSound, State.enabled_iff, State.setCam_cam_self, State.setCam_cfg, State.setCam_mode,
      State.setCam_tracker, State.setCam_parkLine, State.setCam_told, Sequencer.tracks]
    exact ⟨⟨fun _ => enabled.1 he, fun _ => nofun⟩, ⟨fun _ => nofun, fun _ => none⟩, nofun,
      fun _ => service (by simp [hp, PhaserState.inService]), fun _ => moving (.inl hp), fun h => absurd h idle, samples, Nat.zero_le _, hs.items.trackErrCycles c,
      nofun, fun h => absurd rfl h⟩
  · obtain ⟨ramped, integrator⟩ := hs.preset_bounds he
    simp only [LoopSound, State.setCam_cam_self, State.setCam_cfg, Sequencer.tracks]
    exact ⟨ramped, integrator, fun h => absurd rfl h⟩
  · simp only [CommandSound, State.setCam_cam_self, State.setCam_cfg, Sequencer.tracks]
    exact ⟨(hs.cams c).command.1, nofun, fun _ h => absurd rfl h⟩
  · exact (hs.cams c).channel.set rfl (by simp [hp])

theorem Sound.enterTracking (hp : (s.cam c).phaser.state = .releasing) : Sound (s.enterTracking c) := by
  rw [State.enterTracking_eq]
  exact hs.unlocked hp _

/-! ### The learn -/

/-- A learn's sample, or its end, keeps soundness: L moves only within LEARN_LIMIT (R114, R115). -/
theorem Sound.learned (hp : (s.cam c).phaser.state = .parked) {q : Sequencer} {offset : Int} {n : BitVec 16}
    (hq : q = { (s.cam c).phaser with
      learning := q.learning, samples := q.samples, sum := q.sum, lastLearn := q.lastLearn })
    (hlearn : q.learning = true → s.tracker.sync.isEngine = true ∧ q.samples < 8) (hsamples : q.samples ≤ 8)
    (hoffset : offset.natAbs ≤ s.items.global.learnLimit) :
    Sound { s with
      notices := n
      cams := s.cams.set c { s.cam c with lane := { (s.cam c).lane with offset := offset }, phaser := q } } := by
  have hstate : q.state = (s.cam c).phaser.state := by rw [hq]
  have he := State.enabled_of_state hp nofun
  refine hs.of_set ?_ (by rw [hstate]) (by rw [hstate]; exact id)
  constructor
  · obtain ⟨geometry, run, valid, -, -, out, dead⟩ := (hs.cams c).lane
    simp only [LaneSound, State.enabled, State.setCam_cam_self, State.setCam_cfg, State.setCam_items,
      State.setCam_mode, State.setCam_tracker, hstate]
    exact ⟨geometry, run, valid, hoffset, fun h => (by rw [hs.run_of_enabled he] at h; cases h), out, dead⟩
  · exact (hs.cams c).arbiter.set rfl (by rw [hstate]; exact id) (by rw [hstate]; exact id)
  · obtain ⟨enabled, causes, forced, service, moving, -, -, park, error, release, runs⟩ := (hs.cams c).sequencer
    simp only [SequencerSound, State.enabled, State.setCam_cam_self, State.setCam_cfg, State.setCam_mode,
      State.setCam_tracker, State.setCam_parkLine, State.setCam_told] at enabled ⊢
    rw [hq]
    exact ⟨enabled, causes, forced, service, moving, fun h => ⟨hp, hlearn h⟩, hsamples, park, error, release,
      runs⟩
  · exact (hs.cams c).loop.set rfl (by rw [hstate]; exact id)
  · exact (hs.cams c).command.set rfl (by rw [hstate])
  · exact (hs.cams c).channel.set rfl (by rw [hstate]; exact id)

theorem Sound.learnSample (hp : (s.cam c).phaser.state = .parked) (d : Int) : Sound (s.learnSample c d) := by
  obtain ⟨-, -, -, -, -, learn, -, -, -, -, -⟩ := (hs.cams c).sequencer
  obtain ⟨-, -, -, offset, -, -, -⟩ := (hs.cams c).lane
  by_cases hl : (s.cam c).phaser.learning = true
  · obtain ⟨-, engine, samples⟩ := learn hl
    by_cases h8 : (s.cam c).phaser.samples + 1 = 8
    · rw [State.learnSample_of_eq hl h8 d rfl
        (done := decide (((s.cam c).lane.offset + learnMean ((s.cam c).phaser.sum + d)).natAbs ≤
          s.items.global.learnLimit)) decide_eq_true_iff]
      refine hs.learned hp rfl nofun (Nat.le_refl 8) ?_
      split
      next h => exact of_decide_eq_true h
      next => exact offset
    · rw [State.learnSample_of_lt hl h8 d]
      exact hs.learned (offset := (s.cam c).lane.offset) (n := s.notices) hp rfl (fun _ => ⟨engine, by dsimp only; omega⟩) (by dsimp only; omega) offset
  · have : s.learnSample c d = s := by simp [State.learnSample, hl]
    rwa [this]

/-! ### Events in TRACKING -/

/-- A cam that goes on tracking: its error record and park run within their ends. -/
theorem Sound.tracked (hp : (s.cam c).phaser.state = .tracking) {q : Sequencer} {l : Loop} {mA : Nat}
    (hq : q = { (s.cam c).phaser with
      parkRun := q.parkRun, errorRun := q.errorRun, eventSeen := q.eventSeen, allOver := q.allOver })
    (hpark : q.parkRun ≤ 1) (herror : q.errorRun < (s.cfg c).trackErrCycles)
    (hramped : l.ramped ≤ (s.cfg c).travel) (hint : l.integrator.natAbs ≤ 64 * (s.cfg c).ilim)
    (hmA : mA ≤ (s.cfg c).imax) :
    Sound { s with cams := s.cams.set c { s.cam c with
      phaser := q, loop := l, channel := (s.cam c).channel.write s.parkLine mA } } := by
  have hstate : q.state = .tracking := by rw [hq]; exact hp
  have same : q.state = (s.cam c).phaser.state := by rw [hq]
  refine hs.of_set (n := s.notices) ?_ (by rw [same]) (by rw [same]; exact id)
  constructor
  · exact (hs.cams c).lane.set rfl (by rw [same])
  · exact (hs.cams c).arbiter.set rfl (by rw [same]; exact id) (by rw [same]; exact id)
  · obtain ⟨enabled, causes, forced, service, moving, learn, samples, -, -, release, -⟩ := (hs.cams c).sequencer
    simp only [SequencerSound, State.enabled, State.setCam_cam_self, State.setCam_cfg, State.setCam_mode,
      State.setCam_tracker, State.setCam_parkLine, State.setCam_told] at enabled ⊢
    rw [hq]
    exact ⟨enabled, causes, forced, service, moving, learn, samples, hpark, herror, release,
      fun h => absurd hp h⟩
  · simp only [LoopSound, State.setCam_cam_self, State.setCam_cfg]
    exact ⟨hramped, hint, fun h => absurd hstate h⟩
  · exact CommandSound.write rfl hmA (by dsimp only; rw [hstate]; nofun) fun _ h => absurd hstate h
  · exact (hs.cams c).channel.write rfl (by dsimp only; rw [same]; exact id)

/-- A cam that returns to park (R103). -/
theorem Sound.returned (hp : (s.cam c).phaser.state = .tracking) {h : Channel}
    (hfollows : h.Follows s.parkLine) (hbounded : h.Bounded s.items.global.pwmHz)
    (hlatch : h.latch = (s.cam c).channel.latch) (hcommand : h.command = 0) :
    Sound { s with cams := s.cams.set c { s.cam c with
      phaser := { (s.cam c).phaser with
        state := .parked, parkRun := 0, errorRun := 0, eventSeen := false, allOver := true }
      loop := ⟨0, 0⟩
      channel := h } } := by
  have he := State.enabled_of_state hp nofun
  obtain ⟨-, causes, -, service, -, learn, -, -, -, -, -⟩ := (hs.cams c).sequencer
  have idle : (s.cam c).phaser.learning = false := by
    rw [← Bool.not_eq_true]
    intro hl
    have parked := (learn hl).1
    rw [hp] at parked
    cases parked
  refine hs.of_set (n := s.notices) ?_ (by simp [hp]) nofun
  constructor
  · exact (hs.cams c).lane.set rfl (by simp [hp])
  · exact (hs.cams c).arbiter.set rfl nofun nofun
  · have same : ({ (s.cam c).phaser with learning := false } : Sequencer) = (s.cam c).phaser := by rw [← idle]
    exact SequencerSound.stood hs he (st := .parked) (x := (s.cam c).phaser.causes) (congrArg (fun q : Sequencer => { q with
      state := .parked, parkRun := 0, errorRun := 0, eventSeen := false, allOver := true }) same.symm) nofun nofun nofun
      ⟨fun _ => nofun, fun _ => causes.2 (by simp [hp])⟩ nofun
      fun _ => service (by simp [hp, PhaserState.inService])
  · exact LoopSound.zero rfl
  · simp only [CommandSound, State.setCam_cam_self, hcommand]
    exact ⟨Nat.zero_le _, nofun, by simp⟩
  · rw [channelSound_iff, State.setCam_cam_self]
    refine ⟨hfollows, hbounded, fun hl => ?_⟩
    have := (hs.cams c).channel.2.2.1 (hlatch ▸ hl)
    rw [hp] at this
    cases this

theorem Sound.trackingEvent (hp : (s.cam c).phaser.state = .tracking) (j : Nat) (d : Int) :
    Sound (s.takeEvent c j d) := by
  obtain ⟨-, -, -, -, -, -, -, park, error, -, -⟩ := (hs.cams c).sequencer
  obtain ⟨ramped, integrator, -⟩ := (hs.cams c).loop
  obtain ⟨follows, bounded, -⟩ := (channelSound_iff s c).1 (hs.cams c).channel
  obtain ⟨hr, hi, hmA⟩ := Loop.update_bounds ramped integrator (hs.cams c).arbiter.1
    ((s.cam c).arbiter.activeSlew (s.cfg c)) d
  rcases hl : (s.cam c).loop.update (s.cfg c) (s.cam c).arbiter.target
    ((s.cam c).arbiter.activeSlew (s.cfg c)) d with ⟨l, mA⟩
  rw [hl] at hr hi hmA
  obtain ⟨run, hrun⟩ : ∃ run, run = (if (s.cam c).arbiter.target = 0 ∧ l.ramped = 0 ∧
      d ≤ ((s.cfg c).parkBand : Int) then (s.cam c).phaser.parkRun + 1 else 0) := ⟨_, rfl⟩
  have hle : run ≤ 2 := by rw [hrun]; split <;> omega
  obtain ⟨returns, goesOn⟩ := trackingEventUpdatesTheLoop s c j d l mA run _ rfl hp hl.symm hrun
  by_cases h2 : run = 2
  · rw [returns h2]
    exact hs.returned hp ((follows.write _).write 0) ((bounded.write _ _).write _ 0) (by simp)
      (Channel.write_command _ _ _)
  · rw [goesOn h2]
    exact hs.tracked hp rfl (by dsimp only; omega) error hr hi hmA

/-- A measurement event at the sequencer, in ENGINE_SYNC (R95). -/
theorem Sound.takeEvent (hengine : s.tracker.sync.isEngine = true) (j : Nat) (d : Int) :
    Sound (s.takeEvent c j d) := by
  cases hp : (s.cam c).phaser.state with
  | tracking => exact hs.trackingEvent hp j d
  | parked =>
    simp only [State.takeEvent, hp]
    split
    · exact hs.beginRelease hp hengine
    · exact hs.learnSample hp d
  | releasing =>
    simp only [State.takeEvent, hp]
    split
    · exact hs.abandonRelease hp
    · split
      · exact hs.enterTracking hp
      · exact hs
  | disabled | forced | fault =>
    simp only [State.takeEvent, hp]
    exact hs

/-! ### Cycle marks -/

/-- A release counted on, below RELEASE_LIMIT (R100, R101). -/
theorem Sound.released {n : Nat} (hn : n < (s.cfg c).releaseLimit) :
    Sound { s with cams := s.cams.set c { s.cam c with phaser := { (s.cam c).phaser with releaseCount := n } } } := by
  refine hs.of_set (n := s.notices) ?_ Iff.rfl id
  constructor
  · exact (hs.cams c).lane.set rfl Iff.rfl
  · exact (hs.cams c).arbiter.set rfl id id
  · obtain ⟨enabled, causes, forced, service, moving, learn, samples, park, error, -, runs⟩ := (hs.cams c).sequencer
    simp only [SequencerSound, State.enabled, State.setCam_cam_self, State.setCam_cfg, State.setCam_mode,
      State.setCam_tracker, State.setCam_parkLine, State.setCam_told] at enabled ⊢
    exact ⟨enabled, causes, forced, service, moving, learn, samples, park, error, fun _ => hn, runs⟩
  · exact (hs.cams c).loop.set rfl id
  · exact (hs.cams c).command.set rfl rfl
  · exact (hs.cams c).channel.set rfl id

theorem Sound.fault_of_enabled (he : s.enabled c = true) (cause : Cause) : Sound (s.faulted c cause) := by
  simpa only [State.setChannel_self] using hs.faulted he (hs.channelFits c) cause

theorem Sound.releaseMark (hp : (s.cam c).phaser.state = .releasing) : Sound (s.cycleMark c) := by
  have he := State.enabled_of_state hp nofun
  have below : (s.cam c).phaser.releaseCount < (s.cfg c).releaseLimit := (hs.cams c).sequencer.2.2.2.2.2.2.2.2.2.1 hp
  have limit : (s.cfg c).unlockCycles < (s.cfg c).releaseLimit := hs.check he (n := 10) (by decide)
  obtain ⟨unlocks, goesOn⟩ := (cycleMarkMovesTheSequencer s _ c _ rfl).2.1 hp rfl
  by_cases h : 0 < (s.cfg c).unlockCycles ∧ (s.cam c).phaser.releaseCount + 1 = (s.cfg c).unlockCycles
  · rw [unlocks h.1 h.2]
    exact hs.unlocked hp _
  · obtain ⟨stuck, counts⟩ := goesOn (by omega)
    by_cases hlimit : (s.cam c).phaser.releaseCount + 1 = (s.cfg c).releaseLimit
    · rw [stuck hlimit, State.faulted_of_counts]
      exact hs.fault_of_enabled he _
    · rw [counts hlimit]
      exact hs.released (by omega)

/-- A following-error cycle closed below its end (R104). -/
theorem Sound.closed (hp : (s.cam c).phaser.state = .tracking) {n : Nat} (hn : n < (s.cfg c).trackErrCycles) :
    Sound { s with cams := s.cams.set c { s.cam c with
      phaser := { (s.cam c).phaser with errorRun := n, eventSeen := false, allOver := true } } } := by
  refine hs.of_set (n := s.notices) ?_ Iff.rfl id
  constructor
  · exact (hs.cams c).lane.set rfl Iff.rfl
  · exact (hs.cams c).arbiter.set rfl id id
  · obtain ⟨enabled, causes, forced, service, moving, learn, samples, park, -, release, -⟩ := (hs.cams c).sequencer
    simp only [SequencerSound, State.enabled, State.setCam_cam_self, State.setCam_cfg, State.setCam_mode,
      State.setCam_tracker, State.setCam_parkLine, State.setCam_told] at enabled ⊢
    exact ⟨enabled, causes, forced, service, moving, learn, samples, park, hn, release, fun h => absurd hp h⟩
  · exact (hs.cams c).loop.set rfl id
  · exact (hs.cams c).command.set rfl rfl
  · exact (hs.cams c).channel.set rfl id

theorem Sound.trackMark (hp : (s.cam c).phaser.state = .tracking) : Sound (s.cycleMark c) := by
  have he := State.enabled_of_state hp nofun
  have below : (s.cam c).phaser.errorRun < (s.cfg c).trackErrCycles := (hs.cams c).sequencer.2.2.2.2.2.2.2.2.1
  have off := (cycleMarkMovesTheSequencer s s c _ rfl).2.2.1
  by_cases h0 : (s.cfg c).trackErrLimit = 0
  · rw [off hp h0]
    exact hs
  · obtain ⟨run, hrun⟩ : ∃ run, run = (if (s.cam c).phaser.eventSeen = false then (s.cam c).phaser.errorRun
        else if (s.cam c).phaser.allOver = true then (s.cam c).phaser.errorRun + 1 else 0) := ⟨_, rfl⟩
    have hle : run ≤ (s.cam c).phaser.errorRun + 1 := by rw [hrun]; split <;> [skip; split] <;> omega
    obtain ⟨follows, counts⟩ :=
      (cycleMarkMovesTheSequencer s _ c _ rfl).2.2.2 hp h0 run hrun rfl
    by_cases hlimit : run = (s.cfg c).trackErrCycles
    · rw [follows hlimit, State.faulted_of_counts]
      exact hs.fault_of_enabled he _
    · rw [counts hlimit]
      exact hs.closed hp (by omega)

theorem Sound.cycleMark (c : Cam) : Sound (s.cycleMark c) := by
  cases hp : (s.cam c).phaser.state with
  | releasing => exact hs.releaseMark hp
  | tracking => exact hs.trackMark hp
  | disabled | parked | forced | fault =>
    simp only [State.cycleMark, hp]
    exact hs

end Moves

end Sys2Proof.Machine

/-! ## Arbitration, lanes and a loss of ENGINE_SYNC keep soundness (R30, R36, R72, R105) -/

namespace Sys2Proof.Machine

/-! ### An arbitration -/

theorem clamp_le (v : Nat) {lo hi : Nat} (h : lo ≤ hi) : clamp v lo hi ≤ hi := by
  unfold clamp
  split
  · exact h
  · split <;> omega

theorem Plan.limitOutcome_fits (p : Plan) (slot : Nat) (r : Record) : (p.limitOutcome slot r).Fits := by
  unfold Plan.limitOutcome
  split
  · nofun
  · split
    · nofun
    · split <;> nofun

theorem Plan.outcome_fits (p : Plan) (slot : Nat) (r : Record) : (p.outcome slot r).Fits := by
  unfold Plan.outcome
  split
  · split
    · exact fun _ => .inl rfl
    · nofun
  · split
    · nofun
    · exact fun _ => .inr rfl
  · exact p.limitOutcome_fits slot r

theorem Plan.standing_fits (p : Plan) (speed slot : Nat) (r : Record) : (p.standing speed slot r).Fits := by
  unfold Plan.standing
  split
  · exact p.outcome_fits slot r
  · nofun

theorem plan_target_le (k : CamItems) (es : List Entry) : (plan k es).target ≤ k.travel :=
  clamp_le _ (Nat.zero_le _)

/-- An arbitration writes the cam's result and outcomes, within their bounds, and may set a notice; that is all
(R72). -/
theorem State.arbitrate_cases (s : State) (c : Cam) :
    ∃ (a : Arbiter) (o : Nat → Record → Outcome) (n : BitVec 16),
      s.arbitrate c = { s with
        cams := s.cams.set c { s.cam c with arbiter := a }
        table := mapEntriesFrom (fun i r => r.write c (o i r)) 0 s.table
        notices := n } ∧
      a.target ≤ (s.cfg c).travel ∧
      (a.suppressed = true → a.target = 0 ∧ a.contributors = 0 ∧ (a.winner = .none ∨ a.winner = .default)) ∧
      ∀ i r, (o i r).Fits := by
  unfold State.arbitrate
  dsimp only
  split
  · refine ⟨suppressedResult s.tracker.speed, fun _ _ => ⟨.suppressed, false⟩, s.notices, ?_, Nat.zero_le _,
      fun _ => ⟨rfl, rfl, .inr rfl⟩, fun _ _ => nofun⟩
    rw [mapRecords_eq_mapEntriesFrom _ _ 0]
    rfl
  · have within := plan_target_le (s.cfg c) (applicable s.tracker.speed (naming c s.table))
    generalize plan (s.cfg c) (applicable s.tracker.speed (naming c s.table)) = p at within ⊢
    split
    · exact ⟨p.result s.tracker.speed, p.standing s.tracker.speed, _, rfl, within, nofun,
        p.standing_fits s.tracker.speed⟩
    · exact ⟨p.result s.tracker.speed, p.standing s.tracker.speed, s.notices, rfl, within, nofun,
        p.standing_fits s.tracker.speed⟩

/-- An arbitration in ENGINE_SYNC of a cam that arbitrates keeps soundness (R71, R72). -/
theorem Sound.arbitrate {s : State} (hs : Sound s) {c : Cam}
    (hp : (s.cam c).phaser.state.arbitrates = true) (hengine : s.tracker.sync.isEngine = true) :
    Sound (s.arbitrate c) := by
  have live : (s.cam c).phaser.state ≠ .disabled := fun h => by rw [h] at hp; cases hp
  have healthy : (s.cam c).phaser.state ≠ .fault := fun h => by rw [h] at hp; cases hp
  have hlocal := s.arbitrate_localTo c
  obtain ⟨a, o, n, heq, target, suppressed, fits⟩ := s.arbitrate_cases c
  have hcam : (s.arbitrate c).cam c = { s.cam c with arbiter := a } := by
    rw [heq]; exact PerCam.get_set_self _ _ _
  have htable : (s.arbitrate c).table = mapEntriesFrom (fun i r => r.write c (o i r)) 0 s.table := by rw [heq]
  refine hs.of_localTo hlocal ?_
    (hs.table.write htable fits hlocal.camsMove.mode (hlocal.enabled (by rw [hcam])))
    (hs.outcomes.write htable hs.table ?_ (by rw [hlocal.camsMove.tracker]; exact id)
      fun b hb => by rw [hlocal.cam_ne hb]; exact id)
    (by rw [heq]; exact hs.counters)
  · rw [hcam]
    constructor
    · exact (hs.cams c).lane.set rfl Iff.rfl
    · simp only [ArbiterSound, State.enabled_eq_false, State.setCam_cam_self, State.setCam_cfg,
        State.setCam_tracker]
      refine ⟨target, suppressed, ?_, fun h => absurd h live⟩
      rintro (h | h)
      · exact absurd h healthy
      · rw [hengine] at h; cases h
    · exact (hs.cams c).sequencer.set rfl
    · exact (hs.cams c).loop.set rfl id
    · exact (hs.cams c).command.set rfl rfl
    · exact (hs.cams c).channel.set rfl id
  · rw [hlocal.camsMove.tracker, hcam]
    rintro (h | h)
    · rw [hengine] at h; cases h
    · exact absurd h healthy

/-! ### Lanes -/

theorem map_geometry_of {f : Window → Window} (h : ∀ w, (f w).geometry = w.geometry) (l : List Window) :
    (l.map f).map Window.geometry = l.map Window.geometry := by
  rw [List.map_map]
  exact List.map_congr_left fun w _ => h w

theorem modify_geometry_of {f : Window → Window} (h : ∀ w, (f w).geometry = w.geometry) (l : List Window) (j : Nat) :
    (l.modify j f).map Window.geometry = l.map Window.geometry := by
  apply List.ext_getElem?
  intro i
  rw [List.getElem?_map, List.getElem?_map, List.getElem?_modify]
  cases l[i]? with
  | none => rfl
  | some w => by_cases hj : j = i <;> simp [hj, h]

/-- A lane's soundness in ENGINE_SYNC: its geometry, its miss run, and L. -/
theorem LaneSound.of_engine {s : State} {c : Cam} (h : LaneSound s c) (hengine : s.tracker.sync.isEngine = true)
    {l : Lane} (hgeometry : l.windows.map Window.geometry = (s.cam c).lane.windows.map Window.geometry)
    (hoffset : l.offset = (s.cam c).lane.offset) (hrun : l.missRun ≤ (s.cfg c).missLimit)
    (hvalid : l.valid = true → l.missRun < (s.cfg c).missLimit)
    (hdead : s.enabled c = false → l.missRun = 0) : LaneSound (s.setLane c l) c := by
  obtain ⟨geometry, -, -, offset, config, -, -⟩ := h
  have same : (s.setLane c l).enabled c = s.enabled c := by rw [State.enabled, State.setLane_cam_self]; rfl
  simp only [LaneSound, same, State.setLane_cam_self, State.setLane_cfg, State.setLane_items, State.setLane_mode,
    State.setLane_tracker]
  exact ⟨hgeometry.trans geometry, hrun, fun hv => ⟨hengine, hvalid hv⟩, hoffset ▸ offset,
    fun hm => hoffset ▸ config hm, fun h => (by rw [hengine] at h; cases h), hdead⟩

theorem Sound.setLane {s : State} (hs : Sound s) {c : Cam} {l : Lane} (hl : LaneSound (s.setLane c l) c) :
    Sound (s.setLane c l) := by
  refine hs.setCam ⟨hl, ?_, ?_, ?_, ?_, ?_⟩ Iff.rfl id
  · exact (hs.cams c).arbiter.set rfl id id
  · exact (hs.cams c).sequencer.set rfl
  · exact (hs.cams c).loop.set rfl id
  · exact (hs.cams c).command.set rfl rfl
  · exact (hs.cams c).channel.set rfl id

section Lanes

variable {s : State} (hs : Sound s) (hengine : s.tracker.sync.isEngine = true)
include hs hengine

theorem Sound.measurementEvent (c : Cam) (j : Nat) (d : Int) : Sound (s.measurementEvent c j d) := by
  unfold State.measurementEvent State.updatePoint
  split
  · split
    next hp =>
      exact (hs.arbitrate hp hengine).takeEvent
        (by rw [(s.arbitrate_localTo c).camsMove.tracker]; exact hengine) j d
    next => exact hs.takeEvent hengine j d
  · exact hs.takeEvent hengine j d

/-- A measured edge clears the miss run of a live lane (R30). -/
theorem Sound.measure {c : Cam} (he : s.enabled c = true) (j base angle : Nat) : Sound (s.measure c j base angle) := by
  unfold State.measure
  dsimp only
  refine ((hs.setLane ?_).count _).measurementEvent hengine c j _
  exact (hs.cams c).lane.of_engine hengine
    (modify_geometry_of (f := fun w => { w with hit := true }) (fun _ => rfl) _ _) rfl (Nat.zero_le _)
    (fun _ => hs.items.missLimit c) fun h => by rw [he] at h; cases h

theorem Sound.classify {c : Cam} (he : s.enabled c = true) (a : Nat) : Sound (s.classify c a) := by
  unfold State.classify
  dsimp only
  split
  · split
    · split
      · exact hs.count _
      · exact hs.measure hengine he _ _ _
    · exact hs
  · split
    · exact (hs.count _).count _
    · exact hs.count _

/-- A miss of a live lane, up to the one that reports SIGNAL (R37). -/
theorem Sound.miss {c : Cam} (he : s.enabled c = true) : Sound (s.miss c) := by
  obtain ⟨-, -, valid, -, -, -, -⟩ := (hs.cams c).lane
  have counted := hs.count (.ofCam c .missed)
  have live : ∀ n, s.enabled c = false → n = 0 := fun _ h => by rw [he] at h; cases h
  have limit : ((s.count (.ofCam c .missed)).cfg c).missLimit = (s.cfg c).missLimit := rfl
  unfold State.miss
  dsimp only
  split
  next hrun =>
    split
    next hlimit =>
      refine (counted.setLane ?_).reportFault c _
      exact (counted.cams c).lane.of_engine hengine rfl rfl (by rw [limit]; dsimp only; omega) nofun (live _)
    next hlimit =>
      refine counted.setLane ?_
      exact (counted.cams c).lane.of_engine hengine rfl rfl (by rw [limit]; dsimp only; omega)
        (fun _ => by rw [limit]; dsimp only; omega) (live _)
  next => exact counted

theorem Sound.closeWindow {c : Cam} (he : s.enabled c = true) (j : Nat) : Sound (s.closeWindow c j) := by
  obtain ⟨-, run, valid, -, -, -, dead⟩ := (hs.cams c).lane
  unfold State.closeWindow
  dsimp only
  split
  · have closed : Sound (s.setLane c { (s.cam c).lane with
        windows := (s.cam c).lane.windows.modify j Window.nextPass }) :=
      hs.setLane ((hs.cams c).lane.of_engine hengine
        (modify_geometry_of (f := Window.nextPass) (fun _ => rfl) _ _) rfl run
        (fun h => (valid h).2) dead)
    split
    · exact closed
    · exact closed.miss hengine (by rw [State.enabled, State.setLane_cam_self]; exact he)
  · exact hs

theorem Sound.closeBy (old new : Nat) (c : Cam) (j : Nat) : Sound (s.closeBy old new c j) := by
  unfold State.closeBy
  split
  · split
    next h =>
      simp only [Bool.and_eq_true] at h
      exact hs.closeWindow hengine h.1.1 j
    next => exact hs
  · exact hs

/-- A new pitch leaves every window's geometry (R17). -/
theorem Sound.passed_clear (c : Cam) :
    Sound (s.setLane c ((s.cam c).lane.eachWindow (fun w => { w with passed := false }))) := by
  obtain ⟨-, run, valid, -, -, -, dead⟩ := (hs.cams c).lane
  exact hs.setLane ((hs.cams c).lane.of_engine hengine
    (map_geometry_of (f := fun w => { w with passed := false }) (fun _ => rfl) _) rfl run
    (fun h => (valid h).2) dead)

/-- A lane at the gain of ENGINE_SYNC (R35). -/
theorem Sound.gain (c : Cam) (a : Nat) : Sound (s.setLane c ((s.cam c).lane.gain a)) := by
  obtain ⟨-, run, valid, -, -, -, dead⟩ := (hs.cams c).lane
  exact hs.setLane ((hs.cams c).lane.of_engine hengine
    (map_geometry_of (f := fun w => { w with late := w.contains a, passed := false }) (fun _ => rfl) _) rfl run
    (fun h => (valid h).2) dead)

omit hs hengine in
/-- What keeps a sound state in ENGINE_SYNC so, cam by cam. -/
theorem Sound.eachCam_engine {f : Cam → State → State}
    (h : ∀ c u, Sound u → u.tracker.sync.isEngine = true → Sound (f c u))
    (hmove : ∀ c u, CamsMove u (f c u)) {s : State} (hs : Sound s) (hengine : s.tracker.sync.isEngine = true) :
    Sound (s.eachCam f) :=
  (State.eachCam_keeps (P := fun u => Sound u ∧ u.tracker.sync.isEngine = true)
    (fun c u hu => ⟨h c u hu.1 hu.2, by rw [(hmove c u).tracker]; exact hu.2⟩) ⟨hs, hengine⟩).1

omit hs hengine in
theorem State.closePositions_localTo (s : State) (old new : Nat) (c : Cam) :
    LocalTo c s (positions.foldl (fun v j => v.closeBy old new c j) s) :=
  (((s.closeBy_localTo old new c 0).trans (State.closeBy_localTo _ old new c 1)).trans
    (State.closeBy_localTo _ old new c 2)).trans (State.closeBy_localTo _ old new c 3)

omit hs hengine in
theorem State.closeAll_camsMove (s : State) (old new : Nat) : CamsMove s (s.closeAll old new) :=
  CamsMove.eachCam fun c u => (u.closePositions_localTo old new c).camsMove

omit hs hengine in
theorem State.newPitch_camsMove (s : State) : CamsMove s s.newPitch :=
  CamsMove.eachCam fun c u => (u.setCam_localTo c _).camsMove

theorem Sound.closeAll (old new : Nat) : Sound (s.closeAll old new) := by
  refine Sound.eachCam_engine (fun c u hu he => ?_)
    (fun c u => (u.closePositions_localTo old new c).camsMove) hs hengine
  have step : ∀ (v : State) (j : Nat), Sound v ∧ v.tracker.sync.isEngine = true →
      Sound (v.closeBy old new c j) ∧ (v.closeBy old new c j).tracker.sync.isEngine = true := fun v j hv =>
    ⟨hv.1.closeBy hv.2 old new c j, by rw [(v.closeBy_localTo old new c j).camsMove.tracker]; exact hv.2⟩
  exact (step _ 3 (step _ 2 (step _ 1 (step _ 0 ⟨hu, he⟩)))).1

theorem Sound.newPitch : Sound s.newPitch :=
  Sound.eachCam_engine (fun c _ hu he => hu.passed_clear he c) (fun c u => (u.setCam_localTo c _).camsMove)
    hs hengine

omit hs hengine in
theorem State.gainLane_localTo (s : State) (a : Nat) (c : Cam) :
    LocalTo c s (if s.enabled c then s.setLane c ((s.cam c).lane.gain a) else s) := by
  split
  · exact s.setCam_localTo c _
  · exact .refl c s

theorem Sound.gainLanes (a : Nat) : Sound (s.gainLanes a) := by
  refine Sound.eachCam_engine (fun c u hu he => ?_) (fun c u => (u.gainLane_localTo a c).camsMove) hs hengine
  split
  · exact hu.gain he c a
  · exact hu

theorem Sound.cycleMarks : Sound (s.eachCam (fun c u => u.cycleMark c)) :=
  Sound.eachCam_engine (fun c _ hu _ => hu.cycleMark c) (fun c u => (u.cycleMark_localTo c).camsMove) hs hengine

end Lanes

/-! ### A loss of ENGINE_SYNC -/

/-- A cam's blocks after a loss of ENGINE_SYNC (R41, R88, R105). -/
def CamState.lost (k : CamState) (line : ParkLine) : CamState :=
  if k.phaser.state.inService = true then
    { lane := k.lane.lose
      arbiter := k.arbiter.clear
      phaser := { k.phaser.aborted with
        state := .parked, releaseCount := 0, parkRun := 0, errorRun := 0, eventSeen := false, allOver := true }
      loop := ⟨0, 0⟩
      channel := k.channel.write line 0 }
  else
    { k with lane := k.lane.lose, arbiter := if k.phaser.state = .disabled then k.arbiter else k.arbiter.clear }

/-- A loss announced to a cam changes its blocks, and the notices where it aborts a learn. -/
theorem State.loseCam_eq (c : Cam) (s : State) :
    State.loseCam c s = { s with
      cams := s.cams.set c ((s.cam c).lost s.parkLine), notices := (State.loseCam c s).notices } := by
  unfold State.loseCam State.parkOnLoss State.clearOnLoss CamState.lost
  simp only [State.setLane_cam_self]
  split
  next h =>
    rw [State.abortLearn_standDown]
    have live : (PhaserState.parked ≠ .disabled) := nofun
    simp [State.enabled, State.setCam, State.setLane, State.cam]
  next h =>
    cases he : (s.cam c).phaser.state <;>
      simp [State.enabled, State.setCam, State.setLane, he]

end Sys2Proof.Machine

/-! ## The table, a loss of ENGINE_SYNC and the crank tracker keep soundness (R10, R19, R20, R41, R60, R88) -/

namespace Sys2Proof.Machine

/-! ### The table slot by slot -/

/-- What a sound state asks of one slot of its table. -/
def SlotSound (s : State) (x : Slot) : Prop :=
  x.generation < 8 ∧ (s.mode = .config → x.record = none) ∧
  ∀ r ∈ x.record, r.Sound s ∧ ∀ c : Cam,
    (s.tracker.sync.isEngine = false ∨ (s.cam c).phaser.state = .fault) → r.outcomes.get c = .fresh

theorem Sound.slot {s : State} (hs : Sound s) {x : Slot} (hx : x ∈ s.table) : SlotSound s x :=
  let ⟨generation, config, records⟩ := hs.table.2 x hx
  ⟨generation, config, fun r hr => ⟨records r hr, hs.outcomes x hx r hr⟩⟩

/-- A table of 32 sound slots in place of a sound state's own. -/
theorem Sound.with_table {s : State} (hs : Sound s) {t : List Slot} (hlength : t.length = 32)
    (hslots : ∀ x ∈ t, SlotSound s x) : Sound { s with table := t } where
  items := hs.items
  mode := hs.mode
  tracker := hs.tracker
  table := ⟨hlength, fun x hx =>
    let ⟨generation, config, records⟩ := hslots x hx
    ⟨generation, config, fun r hr => (records r hr).1⟩⟩
  outcomes := fun x hx r hr => ((hslots x hx).2.2 r hr).2
  cams := fun c => (hs.cams c).congr (s := s) rfl rfl id rfl rfl rfl
  parkLine := hs.parkLine
  link := hs.link
  counters := hs.counters

theorem SlotSound.retire {s : State} {x : Slot} (h : SlotSound s x) : SlotSound s x.retire := by
  unfold Slot.retire
  split
  · exact ⟨Nat.mod_lt _ (by omega), fun _ => rfl, fun r hr => (Option.not_mem_none r hr).elim⟩
  · exact h

theorem SlotSound.countDown {s : State} {x : Slot} (h : SlotSound s x) : SlotSound s x.countDown := by
  unfold Slot.countDown
  split
  next r hr =>
    split
    · exact h.retire
    next hlapses =>
      obtain ⟨generation, config, records⟩ := h
      obtain ⟨⟨owner, rank, values, lifetime, remaining, rest⟩, fresh⟩ := records r hr
      refine ⟨generation, fun hm => (by rw [config hm] at hr; cases hr), fun r' hr' => ?_⟩
      obtain rfl : r.countDown = r' := Option.some.inj hr'
      simp only [Record.lapses, decide_eq_true_eq, not_and, not_le] at hlapses
      unfold Record.countDown
      split
      next h0 => exact ⟨⟨owner, rank, values, lifetime, remaining, rest⟩, fresh⟩
      next h0 =>
        refine ⟨⟨owner, rank, values, lifetime, ?_, rest⟩, fresh⟩
        simp only [Record.RemainingSound, if_neg h0] at remaining ⊢
        have := hlapses h0
        omega
  next => exact h

theorem Sound.map_table {s : State} (hs : Sound s) {f : Slot → Slot} (h : ∀ x, SlotSound s x → SlotSound s (f x)) :
    Sound { s with table := s.table.map f } :=
  hs.with_table (by rw [List.length_map]; exact hs.table.1) fun x hx => by
    obtain ⟨z, hz, rfl⟩ := List.mem_map.1 hx
    exact h z (hs.slot hz)

theorem Sound.countLifetimes {s : State} (hs : Sound s) : Sound s.countLifetimes := by
  have counted := (hs.map_table (f := Slot.countDown) fun _ h => h.countDown).countTimes .lapsedDemands
    (lapsing s.table)
  unfold State.countLifetimes
  dsimp only
  split
  · exact counted
  · exact counted.notify _

theorem Record.Sound.withdraw {r : Record} {s : State} (h : r.Sound s) : r.withdraw.Sound s := by
  obtain ⟨owner, rank, values, lifetime, remaining, band, cap, cams, entries⟩ := h
  refine ⟨owner, rank, values, lifetime, remaining, band, cap, cams, fun c => ?_⟩
  simp only [Record.withdraw, PerCam.get_const]
  exact ⟨(entries c).1, fun _ => trivial, nofun⟩

/-! ### A loss of ENGINE_SYNC -/

theorem Lane.lose_geometry (l : Lane) : l.lose.windows.map Window.geometry = l.windows.map Window.geometry :=
  map_geometry_of (f := fun w => { w with hit := false, late := false, passed := false }) (fun _ => rfl) _

theorem Lane.lose_flags {l : Lane} {w : Window} (h : w ∈ l.lose.windows) : w.hit = false ∧ w.late = false := by
  obtain ⟨z, -, rfl⟩ := List.mem_map.1 h
  exact ⟨rfl, rfl⟩

theorem LaneSound.lost {s : State} {c : Cam} {k : CamState} (h : LaneSound s c)
    (hl : k.lane = (s.cam c).lane.lose)
    (he : k.phaser.state = .disabled ↔ (s.cam c).phaser.state = .disabled) : LaneSound (s.setCam c k) c := by
  obtain ⟨geometry, -, -, offset, config, -, -⟩ := h
  have henabled : (s.setCam c k).enabled c = s.enabled c := by
    rw [State.enabled, State.setCam_cam_self]
    exact decide_eq_decide.2 (not_congr he)
  simp only [LaneSound, henabled, State.setCam_cam_self, State.setCam_cfg, State.setCam_items,
    State.setCam_mode, State.setCam_tracker, hl]
  exact ⟨(Lane.lose_geometry _).trans geometry, Nat.zero_le _, nofun, offset, config,
    fun _ => ⟨rfl, fun _ hw => Lane.lose_flags hw⟩, fun _ => rfl⟩

/-- A cam at rest with its lane and its result cleared stays sound when ENGINE_SYNC is lost. -/
theorem CamSound.leave {s u : State} {c : Cam} (h : CamSound s c) (hmode : u.mode = s.mode)
    (hitems : u.items = s.items) (hline : u.parkLine = s.parkLine) (htold : u.told.get c = s.told.get c)
    (hcam : u.cam c = s.cam c)
    (hlane : ∃ l : Lane, (s.cam c).lane = l.lose) (harbiter : (s.cam c).arbiter = (s.cam c).arbiter.clear)
    (hmoving : (s.cam c).phaser.state ≠ .releasing ∧ (s.cam c).phaser.state ≠ .tracking)
    (hidle : (s.cam c).phaser.learning = false) : CamSound u c := by
  have henabled : u.enabled c = s.enabled c := by rw [State.enabled, State.enabled, hcam]
  have hcfg : u.cfg c = s.cfg c := congrArg (fun x => x.cam.get c) hitems
  constructor
  · obtain ⟨l, hl⟩ := hlane
    obtain ⟨geometry, run, valid, offset, config, out, dead⟩ := h.lane
    simp only [LaneSound, hcam, henabled, hcfg, hmode, hitems]
    exact ⟨geometry, run, fun hv => (by rw [hl] at hv; cases hv), offset, config,
      fun _ => by rw [hl]; exact ⟨rfl, fun _ hw => Lane.lose_flags hw⟩, dead⟩
  · obtain ⟨target, suppressed, -, dead⟩ := h.arbiter
    simp only [ArbiterSound, hcam, henabled, hcfg]
    exact ⟨target, suppressed, fun _ => harbiter, dead⟩
  · obtain ⟨enabled, causes, forced, service, -, -, rest⟩ := h.sequencer
    simp only [SequencerSound, hcam, henabled, hcfg, hmode, hline, htold]
    exact ⟨enabled, causes, forced, service, fun hq => absurd hq (by simp [hmoving]),
      fun hl => (by rw [hidle] at hl; cases hl), rest⟩
  · simpa only [LoopSound, hcam, hcfg] using h.loop
  · simpa only [CommandSound, hcam, hcfg] using h.command
  · simpa only [ChannelSound, hcam, hline, hitems] using h.channel

/-- A cam that a loss moves: it stood in service. -/
theorem CamState.lost_of_service {k : CamState} (h : k.phaser.state.inService = true) (line : ParkLine) :
    k.lost line =
      { lane := k.lane.lose
        arbiter := k.arbiter.clear
        phaser := { k.phaser.aborted with
          state := .parked, releaseCount := 0, parkRun := 0, errorRun := 0, eventSeen := false, allOver := true }
        loop := ⟨0, 0⟩
        channel := k.channel.write line 0 } :=
  if_pos h

/-- A cam that a loss leaves where it stood. -/
theorem CamState.lost_of_still {k : CamState} (h : k.phaser.state.inService = false) (line : ParkLine) :
    k.lost line =
      { k with
        lane := k.lane.lose
        arbiter := if k.phaser.state = .disabled then k.arbiter else k.arbiter.clear } :=
  if_neg (by simp [h])

theorem CamState.lost_disabled_iff (k : CamState) (line : ParkLine) :
    (k.lost line).phaser.state = .disabled ↔ k.phaser.state = .disabled := by
  cases h : k.phaser.state.inService with
  | true =>
    rw [CamState.lost_of_service h]
    exact ⟨nofun, fun hd => by rw [hd] at h; cases h⟩
  | false => rw [CamState.lost_of_still h]

theorem CamState.lost_lane (k : CamState) (line : ParkLine) : (k.lost line).lane = k.lane.lose := by
  unfold CamState.lost; split <;> rfl

/-- The blocks of a cam after a loss, while the tracker still stands in ENGINE_SYNC. -/
theorem Sound.lost_cam {s : State} (hs : Sound s) (c : Cam) :
    CamSound (s.setCam c ((s.cam c).lost s.parkLine)) c := by
  have hlane := (hs.cams c).lane.lost (CamState.lost_lane _ s.parkLine) (CamState.lost_disabled_iff _ s.parkLine)
  cases h : (s.cam c).phaser.state.inService with
  | true =>
    have he : s.enabled c = true := (s.enabled_iff c).2 fun hd => by rw [hd] at h; cases h
    have healthy : (s.cam c).phaser.state ≠ .fault := fun hf => by rw [hf] at h; cases h
    obtain ⟨-, causes, -, service, -⟩ := (hs.cams c).sequencer
    rw [CamState.lost_of_service h] at hlane ⊢
    constructor
    · exact hlane
    · exact (hs.cams c).arbiter.clear rfl nofun
    · exact SequencerSound.stood hs he rfl nofun nofun nofun (by simpa [Sequencer.aborted] using causes.2 healthy)
        nofun fun _ => service h
    · exact LoopSound.zero rfl
    · exact CommandSound.write rfl (Nat.zero_le _) nofun fun _ _ => rfl
    · exact (hs.cams c).channel.write rfl fun hf => absurd hf healthy
  | false =>
    rw [CamState.lost_of_still h] at hlane ⊢
    constructor
    · exact hlane
    · by_cases hd : (s.cam c).phaser.state = .disabled
      · exact (hs.cams c).arbiter.set (if_pos hd) id id
      · exact (hs.cams c).arbiter.clear (if_neg hd) id
    · exact (hs.cams c).sequencer.set rfl
    · exact (hs.cams c).loop.set rfl id
    · exact (hs.cams c).command.set rfl rfl
    · exact (hs.cams c).channel.set rfl id

/-- A loss leaves every cam at rest with its result cleared. -/
theorem Sound.lost_rests {s : State} (hs : Sound s) (c : Cam) (line : ParkLine) :
    ((s.cam c).lost line).arbiter = ((s.cam c).lost line).arbiter.clear ∧
      ((s.cam c).lost line).phaser.state ≠ .releasing ∧ ((s.cam c).lost line).phaser.state ≠ .tracking ∧
      ((s.cam c).lost line).phaser.learning = false := by
  cases h : (s.cam c).phaser.state.inService with
  | true =>
    rw [CamState.lost_of_service h]
    exact ⟨rfl, nofun, nofun, rfl⟩
  | false =>
    obtain ⟨-, -, -, -, -, learn, -⟩ := (hs.cams c).sequencer
    rw [CamState.lost_of_still h]
    refine ⟨?_, fun hr => (by rw [hr] at h; cases h), fun ht => (by rw [ht] at h; cases h), ?_⟩
    · dsimp only
      split
      next hd => rw [(hs.cams c).arbiter.2.2.2 ((s.enabled_eq_false c).2 hd)]; rfl
      next => rfl
    · exact Bool.eq_false_iff.2 fun hl => by rw [(learn hl).1] at h; cases h

theorem State.loseCam_localTo (c : Cam) (s : State) : LocalTo c s (State.loseCam c s) :=
  localTo_of_eq (t := s.table) (n := s.counters) (s.loseCam_eq c)

theorem State.withdrawAll_camsMove (s : State) : CamsMove s s.withdrawAll := rfl

theorem State.loseSync_camsMove (s : State) : CamsMove s s.loseSync := by
  unfold State.loseSync
  exact (CamsMove.eachCam fun c u => (u.loseCam_localTo c).camsMove).trans (State.withdrawAll_camsMove _)

/-- Every cam's blocks after a loss of ENGINE_SYNC (R41, R88, R105). -/
theorem State.loseSync_cam (s : State) (c : Cam) : s.loseSync.cam c = (s.cam c).lost s.parkLine := by
  unfold State.loseSync
  rw [State.withdrawAll_cam]
  refine State.eachCam_cam (g := fun _ k => k.lost s.parkLine) (fun c u => u.loseCam_localTo c) (fun c u hu => ?_) c
  rw [State.loseCam_eq, ← hu.parkLine]
  exact PerCam.get_set_self _ _ _

theorem State.eachCam_loseCam_table (s : State) : (s.eachCam State.loseCam).table = s.table :=
  State.eachCam_keeps (P := fun u => u.table = s.table) (fun c u hu => by rw [State.loseCam_eq]; exact hu) rfl

theorem State.eachCam_loseCam_counters (s : State) : (s.eachCam State.loseCam).counters = s.counters :=
  State.eachCam_keeps (P := fun u => u.counters = s.counters) (fun c u hu => by rw [State.loseCam_eq]; exact hu) rfl

theorem State.withdrawAll_table (s : State) : s.withdrawAll.table = mapRecords Record.withdraw s.table := rfl

theorem State.loseSync_table (s : State) : s.loseSync.table = mapRecords Record.withdraw s.table := by
  rw [State.loseSync, State.withdrawAll_table, State.eachCam_loseCam_table]

theorem State.loseSync_counters (s : State) : s.loseSync.counters = s.counters := by
  rw [State.loseSync, State.withdrawAll_counters, State.eachCam_loseCam_counters]

theorem State.loseSync_enabled (s : State) (c : Cam) : s.loseSync.enabled c = s.enabled c := by
  rw [State.enabled, State.enabled, State.loseSync_cam]
  exact decide_eq_decide.2 (not_congr (CamState.lost_disabled_iff _ _))

/-- What a loss of ENGINE_SYNC leaves, whatever the tracker goes on to hold, is sound (R21). -/
theorem Sound.of_loss {s u : State} (hs : Sound s) (hm : s.mode = .run) {y : Sync} {v : Nat}
    (hy : TrackerSound (s.setTracker y v)) (move : CamsMove (s.setTracker y v) u)
    (hcam : ∀ c, u.cam c = (s.cam c).lost s.parkLine) (henabled : ∀ c, u.enabled c = s.enabled c)
    (htable : u.table = mapRecords Record.withdraw s.table) (hcounters : u.counters = s.counters) : Sound u where
  items := by rw [move.items]; exact hs.items
  mode := by
    rw [move.eq]
    exact ⟨fun h => (by rw [show s.mode = .config from h] at hm; cases hm), hs.mode.2⟩
  tracker := by rw [move.eq]; exact hy
  table := by
    refine ⟨by rw [htable, mapRecords, List.length_map]; exact hs.table.1, fun x hx => ?_⟩
    rw [htable] at hx
    obtain ⟨z, hz, rfl⟩ := List.mem_map.1 hx
    obtain ⟨generation, config, records⟩ := hs.table.2 z hz
    refine ⟨generation, fun hc => ?_, fun r hr => ?_⟩
    · rw [show s.mode = .config from move.mode ▸ hc] at hm
      cases hm
    · obtain ⟨r0, hr0, rfl⟩ := Option.map_eq_some_iff.1 hr
      exact (records r0 hr0).withdraw.congr henabled
  outcomes := by
    intro x hx r hr c _
    rw [htable] at hx
    obtain ⟨z, hz, rfl⟩ := List.mem_map.1 hx
    obtain ⟨r0, hr0, rfl⟩ := Option.map_eq_some_iff.1 hr
    exact PerCam.get_const _ _
  cams := by
    intro c
    obtain ⟨arbiter, notReleasing, notTracking, idle⟩ := hs.lost_rests c s.parkLine
    refine (hs.lost_cam c).leave move.mode move.items move.parkLine (by rw [move.told]; rfl)
      (by rw [hcam, State.setCam_cam_self]) ?_ ?_ ?_ ?_
    all_goals rw [State.setCam_cam_self]
    · exact ⟨_, CamState.lost_lane _ _⟩
    · exact arbiter
    · exact ⟨notReleasing, notTracking⟩
    · exact idle
  parkLine := by rw [move.eq]; exact hs.parkLine
  link := by rw [move.eq]; exact hs.link
  counters := by rw [CountersSound, hcounters]; exact hs.counters

theorem Sound.lose {s : State} (hs : Sound s) (hm : s.mode = .run) {y : Sync} {v : Nat}
    (hy : TrackerSound (s.setTracker y v)) : Sound (s.setTracker y v).loseSync :=
  hs.of_loss hm hy (State.loseSync_camsMove _) (State.loseSync_cam _) (State.loseSync_enabled _)
    (State.loseSync_table _) (State.loseSync_counters _)

/-! ### The crank tracker -/

theorem pitchPeriod_le (missing period : Nat) (gap : Bool) : pitchPeriod missing period gap ≤ period := by
  unfold pitchPeriod
  split
  · exact Nat.div_le_self _ _
  · exact le_rfl

theorem toothPeriod_bounds (last t : Nat) : 1 ≤ toothPeriod last t ∧ toothPeriod last t ≤ 16777215 := by
  rw [toothPeriod_eq]; omega

/-- The tooth after a sound one, where the gap test agrees with R8, is sound at its instant. -/
theorem Tooth.Sound.next {g : GlobalItems} {k : Tooth} {now t : Nat} (h : k.Sound g now)
    (hgap : gapAfter g k t = gapDue g k) : (nextTooth g k t (gapAfter g k t)).Sound g t := by
  obtain ⟨position, -, -, -, -⟩ := h
  obtain ⟨low, high⟩ := toothPeriod_bounds k.lastTooth t
  refine ⟨?_, low, high, pitchPeriod_le _ _ _, le_rfl⟩
  rw [hgap]
  simp only [nextTooth, gapDue, decide_eq_true_eq]
  split
  · exact Nat.zero_le _
  · omega

/-- A mode in which the tracker is not held in STOPPED. -/
theorem Sound.run_of_moving {s : State} (hs : Sound s) (h : s.tracker.sync ≠ .stopped) : s.mode = .run := by
  cases hm : s.mode with
  | run => rfl
  | config => exact absurd (by rw [(hs.mode.1 hm).1]) h

theorem State.gainLanes_enabled (s : State) (a : Nat) (c : Cam) : (s.gainLanes a).enabled c = s.enabled c :=
  State.eachCam_keeps (P := fun u => u.enabled c = s.enabled c) (fun b u hu => by
    split
    · rw [State.enabled, State.setLane, State.setCam_cam]
      split
      next hb => subst hb; exact hu
      next => exact hu
    · exact hu) rfl

theorem State.gainLanes_camsMove (s : State) (a : Nat) : CamsMove s (s.gainLanes a) :=
  CamsMove.eachCam fun c u => (u.gainLane_localTo a c).camsMove

section Crank

variable {s : State} (hs : Sound s)
include hs

theorem Sound.out_of_seeking {q : Search} (h : s.tracker.sync = .seeking q) {y : Sync} {v : Nat}
    (hy : TrackerSound (s.setTracker y v)) : Sound (s.setTracker y v) :=
  hs.setTracker (hs.run_of_moving (by rw [h]; nofun)) hy fun he => by rw [h] at he; cases he

theorem Sound.out_of_crank {k : Tooth} (h : s.tracker.sync = .crankSync k) {y : Sync} {v : Nat}
    (hy : TrackerSound (s.setTracker y v)) : Sound (s.setTracker y v) :=
  hs.setTracker (hs.run_of_moving (by rw [h]; nofun)) hy fun he => by rw [h] at he; cases he

omit hs in
/-- A search stands sound, also at its start (R6, R10). -/
theorem TrackerSound.search (q : Search) (hp : q.periods ≤ 2) (ht : q.lastTooth ≤ s.now) :
    TrackerSound (s.setTracker (.seeking q) 0) := ⟨Nat.zero_le _, rfl, hp, ht⟩

theorem Sound.seekTooth {q : Search} (h : s.tracker.sync = .seeking q) : Sound (s.seekTooth q s.now) := by
  have still : s.tracker.speed = 0 := by have := hs.tracker.2; rw [h] at this; exact this.1
  have searching : ∀ q' : Search, q'.periods ≤ 2 → q'.lastTooth ≤ s.now →
      Sound (s.setTracker (.seeking q') s.tracker.speed) := fun q' hp ht =>
    hs.out_of_seeking h (by rw [still]; exact .search q' hp ht)
  obtain ⟨low, high⟩ := toothPeriod_bounds q.lastTooth s.now
  unfold State.seekTooth
  dsimp only
  split
  · split
    · refine hs.out_of_seeking h ⟨engineSpeed_le _ _, ⟨Nat.zero_le _, low, high, ?_, le_rfl⟩, (Nat.zero_mul _).symm⟩
      exact pitchPeriod_le s.items.global.missing (toothPeriod q.lastTooth s.now) true
    · exact searching _ (Nat.min_le_left _ _) le_rfl
  · exact searching _ (Nat.min_le_left _ _) le_rfl

theorem Sound.crankTooth {k : Tooth} (h : s.tracker.sync = .crankSync k)
    (hgap : gapAfter s.items.global k s.now = gapDue s.items.global k) :
    Sound (s.crankTooth k s.now (gapAfter s.items.global k s.now)) := by
  have hk := hs.tracker.2
  rw [h] at hk
  exact hs.out_of_crank h ⟨engineSpeed_le _ _, hk.1.next hgap, rfl⟩

/-- A gap error in CRANK_SYNC (R10). -/
theorem Sound.gapError {k : Tooth} (h : s.tracker.sync = .crankSync k) : Sound (s.gapError s.now) :=
  ((hs.count .gapErrors).notify .syncLost).out_of_crank (k := k) h (.search _ (Nat.zero_le _) le_rfl)

/-- A gap error in ENGINE_SYNC (R10, R21). -/
theorem Sound.gapError_lose {k : Tooth} {y : Cycle} (h : s.tracker.sync = .engineSync k y) :
    Sound (s.gapError s.now).loseSync :=
  ((hs.count .gapErrors).notify .syncLost).lose (hs.run_of_moving (by rw [h]; nofun))
    (.search _ (Nat.zero_le _) le_rfl)

/-- A tooth's angle lies below a half (R9). -/
theorem Sound.position_angle_lt {k : Tooth} {now : Nat} (h : k.Sound s.items.global now) :
    k.position * s.items.global.pitchAngle < 5760 := by
  have bound := position_add_holdLimit hs.items.teeth hs.items.missing h.1
  omega

omit hs in
theorem Half.angle_le (h : Half) : h.angle ≤ 5760 := by cases h <;> decide

omit hs in
theorem Cycle.closedRun_le {y : Cycle} (h : y.mismatchRun ≤ 1) : y.closedRun ≤ 2 := by
  unfold Cycle.closedRun; split <;> omega

/-- The tracker's accounting at a cycle mark (R19). -/
theorem Sound.closeCycle : Sound s.closeCycle := by
  unfold State.closeCycle
  split
  next k y h =>
    have hm := hs.run_of_moving (by rw [h]; nofun)
    obtain ⟨speed, hk⟩ := hs.tracker
    rw [h] at hk
    obtain ⟨tooth, angle, covered, run⟩ := hk
    have small := hs.position_angle_lt tooth
    split
    · refine ((hs.count .phaseLosses).notify .syncLost).lose hm ⟨speed, tooth, ?_⟩
      have : k.angle % 5760 = k.position * s.items.global.pitchAngle := by
        rw [angle]
        cases y.half <;> simp only [Half.angle] <;> omega
      exact this
    next hrun =>
      have : y.closedRun ≤ 1 := by have := Cycle.closedRun_le run; omega
      exact hs.setTracker hm ⟨speed, tooth, angle, covered, this⟩ fun _ => rfl
  next => exact hs

omit hs in
theorem State.countLifetimes_tracker (s : State) : s.countLifetimes.tracker = s.tracker := by
  unfold State.countLifetimes
  dsimp only
  split
  · rw [State.countTimes_eq]
  · rw [State.notify_tracker, State.countTimes_eq]

theorem Sound.issueMark (hengine : s.tracker.sync.isEngine = true) : Sound s.issueMark :=
  (Sound.cycleMarks hs.countCycle.countLifetimes (by rw [State.countLifetimes_tracker]; exact hengine)).closeCycle

/-- A tooth in ENGINE_SYNC (R8, R9, R11, R17). -/
theorem Sound.engineTooth {k : Tooth} {y : Cycle} (h : s.tracker.sync = .engineSync k y)
    (hgap : gapAfter s.items.global k s.now = gapDue s.items.global k) :
    Sound (s.engineTooth k y s.now (gapAfter s.items.global k s.now)) := by
  obtain ⟨-, hk⟩ := hs.tracker
  rw [h] at hk
  obtain ⟨tooth, -, -, run⟩ := hk
  have next := tooth.next hgap
  have small := hs.position_angle_lt next
  unfold State.engineTooth
  dsimp only
  generalize nextTooth s.items.global k s.now (gapAfter s.items.global k s.now) = n at next small ⊢
  generalize (if gapAfter s.items.global k s.now = true then y.half.flip else y.half) = half
  have bound := half.angle_le
  generalize hangle : half.angle + n.position * s.items.global.pitchAngle = angle
  have turned := hs.setTracker (y := .engineSync { n with angle := angle } { y with half := half, coveredFrom := angle })
    (v := engineSpeed s.items.global n.pitch) (hs.run_of_moving (by rw [h]; nofun))
    ⟨engineSpeed_le _ _, next, hangle.symm, by dsimp only [State.setTracker]; omega, run⟩ fun _ => rfl
  generalize hu : s.setTracker (.engineSync { n with angle := angle } { y with half := half, coveredFrom := angle })
    (engineSpeed s.items.global n.pitch) = u at turned ⊢
  have engine : u.tracker.sync.isEngine = true := by rw [← hu]; rfl
  have still := (u.closeAll_camsMove y.coveredFrom angle).trans (State.newPitch_camsMove _)
  have closed := turned.closeAll engine y.coveredFrom angle
  have pitched := closed.newPitch (by rw [(u.closeAll_camsMove y.coveredFrom angle).tracker]; exact engine)
  split
  · exact pitched.issueMark (by rw [still.tracker]; exact engine)
  · exact pitched

/-- An edge of the set polarity (R3, R6 to R10). -/
theorem Sound.crankEdge (hm : s.mode = .run) : Sound (s.crankEdge s.now) := by
  unfold State.crankEdge
  dsimp only
  split
  next h =>
    exact hs.setTracker hm (.search _ (Nat.zero_le _) le_rfl) fun he => by rw [h] at he; cases he
  next q h =>
    split
    · exact hs.count _
    · exact hs.seekTooth h
  next k h =>
    split
    · exact hs.count _
    · split
      next hgap => exact hs.crankTooth h hgap
      next => exact hs.gapError h
  next k y h =>
    split
    · exact hs.count _
    · split
      next hgap => exact hs.engineTooth h hgap
      next => exact hs.gapError_lose h

/-- The stall timer's expiry (R20). -/
theorem Sound.stalled : Sound s.stalled := by
  have stopped : ∀ u : State, TrackerSound (u.setTracker .stopped 0) := fun _ => ⟨Nat.zero_le _, rfl⟩
  unfold State.stalled
  dsimp only
  split
  · exact hs
  next q h => exact (hs.count .stalls).out_of_seeking (q := q) h (stopped _)
  next k h => exact ((hs.count .stalls).out_of_crank (k := k) h (stopped _)).notify _
  next k y h =>
    exact ((hs.count .stalls).notify .engineStopped).lose (y := .stopped) (v := 0)
      (hs.run_of_moving (by rw [h]; nofun)) (stopped _)

/-- Entry to ENGINE_SYNC (R16). -/
theorem Sound.gainSync {k : Tooth} (h : s.tracker.sync = .crankSync k) {c : Cam} (he : s.enabled c = true)
    (half : Half) {a : Nat} (ha : a < 11520) : Sound (s.gainSync k c half a) := by
  obtain ⟨speed, hk⟩ := hs.tracker
  rw [h] at hk
  obtain ⟨tooth, angle⟩ := hk
  have gained := (hs.out_of_crank h (y := .engineSync { k with angle := half.angle + k.angle }
      { half := half, coveredFrom := a, refHit := true, mismatch := false, mismatchRun := 0 })
    (v := s.tracker.speed) ⟨speed, tooth, congrArg (half.angle + ·) angle, ha, Nat.zero_le _⟩).notify .engineSynced
  unfold State.gainSync
  dsimp only
  generalize hu : (s.setTracker (.engineSync { k with angle := half.angle + k.angle }
      { half := half, coveredFrom := a, refHit := true, mismatch := false, mismatchRun := 0 })
    s.tracker.speed).notify .engineSynced = u at gained ⊢
  have engine : u.tracker.sync.isEngine = true := by rw [← hu]; rfl
  have live : u.enabled c = true := by rw [← hu]; exact he
  exact (gained.gainLanes engine a).classify
    (by rw [(u.gainLanes_camsMove a).tracker]; exact engine) (by rw [State.gainLanes_enabled]; exact live) a

end Crank

end Sys2Proof.Machine

/-! ## The payloads of the demand table's requests (R51, R53, R170) -/

namespace Sys2Proof.Machine

/-! ### Parts of a payload -/

theorem fromBe16_lt (hi lo : Byte) : fromBe16 hi lo < 65536 := by
  have := hi.isLt
  have := lo.isLt
  unfold fromBe16
  omega

theorem u8_toNat_self (b : Byte) : u8 b.toNat = b :=
  BitVec.eq_of_toNat_eq (u8_toNat b.isLt)

theorem be16_fromBe16 (hi lo : Byte) : be16 (fromBe16 hi lo) = [hi, lo] := by
  have h := hi.isLt
  have l := lo.isLt
  have h1 : u8 (fromBe16 hi lo / 256) = hi := BitVec.eq_of_toNat_eq (by simp [u8, fromBe16]; omega)
  have h2 : u8 (fromBe16 hi lo) = lo := BitVec.eq_of_toNat_eq (by simp [u8, fromBe16]; omega)
  rw [be16, h1, h2]

/-- The values of a band or of a value part fit their bytes. -/
def PairFits (b : Option (Nat × Nat)) : Prop := b.all (fun b => decide (b.1 < 65536 ∧ b.2 < 65536)) = true

/-- The value of a one-byte part fits its byte. -/
def ByteFits (n : Option Nat) : Prop := n.all (fun n => decide (n < 256)) = true

theorem takeBand_pairBytes {b : Option (Nat × Nat)} (h : PairFits b) (rest : List Byte) :
    takeBand b.isSome (pairBytes b ++ rest) = some (b, rest) := by
  cases b with
  | none => rfl
  | some v =>
    obtain ⟨h1, h2⟩ : v.1 < 65536 ∧ v.2 < 65536 := by simpa [PairFits] using h
    simp [takeBand, pairBytes, be16, fromBe16_be16 h1, fromBe16_be16 h2]

theorem takeByte_partByte {n : Option Nat} (h : ByteFits n) (rest : List Byte) :
    takeByte n.isSome (partByte n ++ rest) = some (n, rest) := by
  cases n with
  | none => rfl
  | some n =>
    have h1 : n < 256 := by simpa [ByteFits] using h
    simp [takeByte, partByte, u8_toNat h1]

theorem takeBand_eq_some {flagged : Bool} {p rest : List Byte} {b : Option (Nat × Nat)}
    (h : takeBand flagged p = some (b, rest)) : flagged = b.isSome ∧ p = pairBytes b ++ rest ∧ PairFits b := by
  unfold takeBand at h
  split at h
  next hf =>
    split at h
    next w x y z tail =>
      obtain ⟨rfl, rfl⟩ : some (fromBe16 w x, fromBe16 y z) = b ∧ tail = rest := by simpa using h
      exact ⟨hf, by simp [pairBytes, be16_fromBe16], by simp [PairFits, fromBe16_lt]⟩
    next => cases h
  next hf =>
    obtain ⟨rfl, rfl⟩ : none = b ∧ p = rest := by simpa using h
    exact ⟨by simpa using hf, rfl, rfl⟩

theorem takeByte_eq_some {flagged : Bool} {p rest : List Byte} {n : Option Nat}
    (h : takeByte flagged p = some (n, rest)) : flagged = n.isSome ∧ p = partByte n ++ rest ∧ ByteFits n := by
  unfold takeByte at h
  split at h
  next hf =>
    split at h
    next x tail =>
      obtain ⟨rfl, rfl⟩ : some x.toNat = n ∧ tail = rest := by simpa using h
      exact ⟨hf, by simp [partByte, u8_toNat_self], by simp [ByteFits, x.isLt]⟩
    next => cases h
  next hf =>
    obtain ⟨rfl, rfl⟩ : none = n ∧ p = rest := by simpa using h
    exact ⟨by simpa using hf, rfl, rfl⟩

theorem pairBytes_length (b : Option (Nat × Nat)) : (pairBytes b).length = 4 * b.isSome.toNat := by
  cases b <;> rfl

theorem partByte_length (n : Option Nat) : (partByte n).length = n.isSome.toNat := by
  cases n <;> rfl

/-! ### POST -/

/-- What a POST payload is read as is what it was laid out from (R51, R170). -/
theorem parsePost_eq_some {p : List Byte} {f : PostForm} (h : parsePost p = some f) : f.LaidOut ∧ p = f.bytes := by
  unfold parsePost at h
  split at h
  next owner cls cams rank f1 f0 s1 s0 life flags rest =>
    split at h
    next => cases h
    next band rest' hband =>
      obtain ⟨fband, rfl, pband⟩ := takeBand_eq_some hband
      split at h
      next cap hcap =>
        obtain ⟨fcap, rfl, pcap⟩ := takeByte_eq_some hcap
        obtain rfl := Option.some.inj h
        refine ⟨⟨owner.isLt, cls.isLt, rank.isLt, fromBe16_lt _ _, fromBe16_lt _ _, life.isLt, pband, pcap,
          fband, fcap⟩, ?_⟩
        simp [PostForm.bytes, u8_toNat_self, be16_fromBe16]
      next => cases h
  next => cases h

theorem PostForm.bytes_flags (f : PostForm) : f.bytes[9]? = some f.flags := rfl

theorem PostForm.bytes_length {f : PostForm} (h : f.LaidOut) :
    f.bytes.length = 10 + 4 * (f.flags.getLsbD 0).toNat + (f.flags.getLsbD 1).toNat := by
  obtain ⟨-, -, -, -, -, -, -, -, hband, hcap⟩ := h
  rw [hband, hcap]
  simp [PostForm.bytes, be16, pairBytes_length, partByte_length]
  omega

theorem Class.ofCode_code (k : Class) : Class.ofCode k.code = some k := by cases k <;> rfl

theorem Class.ofCode_eq_some {n : Nat} {k : Class} (h : Class.ofCode n = some k) : n = k.code := by
  match n with
  | 0 | 1 | 2 => cases h; rfl
  | n + 3 => cases h

theorem Class.ofCode_eq_none {n : Nat} (h : Class.ofCode n = none) : 2 < n := by
  match n with
  | 0 | 1 | 2 => cases h
  | n + 3 => omega

theorem mem_cam_all (c : Cam) : c ∈ Cam.all := by cases c <;> decide

theorem camSetLawful_iff (s : State) (b : Byte) :
    camSetLawful s b = true ↔
      b ≠ 0#8 ∧ b.toNat < 16 ∧ ∀ c : Cam, (camSetOf b).get c = true → s.enabled c = true := by
  unfold camSetLawful
  rw [Bool.and_eq_true, decide_eq_true_iff, List.all_eq_true, and_assoc]
  refine and_congr_right fun _ => and_congr_right fun _ => ?_
  refine ⟨fun h c hc => ?_, fun h c _ => ?_⟩
  · simpa [hc] using h c (mem_cam_all c)
  · cases hc : (camSetOf b).get c with
    | false => rfl
    | true => simpa using h c hc

theorem bandLawful_iff (band : Option (Nat × Nat)) :
    bandLawful band = true ↔ ¬ ∃ lo hi, band = some (lo, hi) ∧ hi < lo := by
  cases band with
  | none => simp [bandLawful]
  | some b => simp [bandLawful, Prod.ext_iff]

theorem valuesLawful_iff (k : Class) (first second : Nat) :
    valuesLawful k first second = true ↔
      first ≤ 2047 ∧ (k = .limit → second ≤ 2047 ∧ first ≤ second) ∧ (k ≠ .limit → second = 0) := by
  cases k <;> simp [valuesLawful]

/-- A POST of a known class is lawful exactly when no field of it is in error (R51). -/
theorem PostForm.lawful_iff {f : PostForm} (s : State) {k : Class} (hk : f.cls = k.code) :
    f.lawful s k = true ↔ ¬ f.BadField s := by
  have hcap : f.cap.all (fun n => decide (k = .override ∧ n ≠ 0)) = true ↔
      ¬ (f.cap.isSome = true ∧ k ≠ .override) ∧ f.cap ≠ some 0 := by
    cases f.cap <;> simp
  have hcams : (∀ c : Cam, (camSetOf f.cams).get c = true → s.enabled c = true) ↔
      ¬ ∃ c : Cam, (camSetOf f.cams).get c = true ∧ s.enabled c = false := by simp
  have hoverride : k ≠ .override ↔ f.cls ≠ 0 := by rw [hk]; cases k <;> simp [Class.code]
  have hblend : k = .blend ↔ f.cls = 1 := by rw [hk]; cases k <;> simp [Class.code]
  have hlimit : k = .limit ↔ f.cls = 2 := by rw [hk]; cases k <;> simp [Class.code]
  have hcls : f.cls ≤ 2 := by rw [hk]; cases k <;> simp [Class.code]
  simp only [PostForm.lawful, Bool.and_eq_true, decide_eq_true_eq, camSetLawful_iff, bandLawful_iff,
    valuesLawful_iff, rankLawful, hcap, hcams, hoverride, hblend, hlimit, ne_eq, PostForm.BadField, not_or]
  constructor
  · rintro ⟨⟨⟨⟨⟨⟨owner, zero, small, cams⟩, rank, blend⟩, first, limit, rest⟩, band⟩, cap, cap0⟩, flags⟩
    refine ⟨by omega, by omega, zero, by omega, cams, by omega, blend, by omega, ?_, ?_, band, cap, cap0, by omega⟩
    · rintro ⟨h, h'⟩
      have := limit h
      omega
    · exact fun h => h.2 (rest h.1)
  · rintro ⟨-, owner, zero, small, cams, rank, blend, first, limit, rest, band, cap, cap0, flags⟩
    refine ⟨⟨⟨⟨⟨⟨by omega, zero, by omega, cams⟩, by omega, blend⟩, by omega, fun h => ?_, fun h => ?_⟩, band⟩, cap,
      cap0⟩, by omega⟩
    · have : ¬ (2047 < f.second ∨ f.second < f.first) := fun h' => limit ⟨h, h'⟩
      omega
    · by_contra h'
      exact rest ⟨h, h'⟩

/-! ### AMEND -/

theorem parseAmend_bytes {f : AmendForm} (h : f.LaidOut) : parseAmend f.bytes = some f := by
  obtain ⟨handle, value, rank, lifetime, band, cap, h0, h1, h2, h3, h5⟩ := h
  have last : takeByte f.cap.isSome (partByte f.cap) = some (f.cap, []) := by
    simpa using takeByte_partByte cap []
  simp only [AmendForm.bytes, parseAmend, List.cons_append, List.nil_append, List.append_assoc, u8_toNat handle, h0, h1,
    h2, h3, h5, takeBand_pairBytes value, takeByte_partByte rank, takeByte_partByte lifetime,
    takeBand_pairBytes band, last, Option.bind_some]

theorem parseAmend_eq_some {p : List Byte} {f : AmendForm} (h : parseAmend p = some f) : f.LaidOut ∧ p = f.bytes := by
  unfold parseAmend at h
  split at h
  next handle flags rest =>
    simp only [Option.bind_eq_some_iff, Prod.exists] at h
    obtain ⟨value, r1, h1, rank, r2, h2, lifetime, r3, h3, band, r4, h4, cap, r5, h5, h⟩ := h
    split at h
    next =>
      obtain rfl := Option.some.inj h
      obtain ⟨f1, rfl, p1⟩ := takeBand_eq_some h1
      obtain ⟨f2, rfl, p2⟩ := takeByte_eq_some h2
      obtain ⟨f3, rfl, p3⟩ := takeByte_eq_some h3
      obtain ⟨f4, rfl, p4⟩ := takeBand_eq_some h4
      obtain ⟨f5, rfl, p5⟩ := takeByte_eq_some h5
      exact ⟨⟨handle.isLt, p1, p2, p3, p4, p5, f1, f2, f3, f4, f5⟩, by simp [AmendForm.bytes, u8_toNat_self]⟩
    next => cases h
  next => cases h

theorem AmendForm.bytes_flags (f : AmendForm) : f.bytes[1]? = some f.flags := rfl

theorem AmendForm.bytes_length {f : AmendForm} (h : f.LaidOut) :
    f.bytes.length = 2 + 4 * (f.flags.getLsbD 0).toNat + (f.flags.getLsbD 1).toNat + (f.flags.getLsbD 2).toNat
      + 4 * (f.flags.getLsbD 3).toNat + (f.flags.getLsbD 5).toNat := by
  obtain ⟨-, -, -, -, -, -, h0, h1, h2, h3, h5⟩ := h
  rw [h0, h1, h2, h3, h5]
  simp [AmendForm.bytes, pairBytes_length, partByte_length]
  omega

theorem rankLawful_iff (k : Class) (n : Nat) : rankLawful k n = true ↔ ¬ (15 < n ∨ (k = .blend ∧ n = 0)) := by
  rw [rankLawful, decide_eq_true_iff, not_or, Nat.not_lt]

/-- First and second values are lawful for a class exactly when neither is in error (R51, R53). -/
theorem valuesLawful_iff_not (k : Class) (a b : Nat) :
    valuesLawful k a b = true ↔
      ¬ (2047 < a ∨ (k = .limit ∧ (2047 < b ∨ b < a)) ∨ (k ≠ .limit ∧ b ≠ 0)) := by
  cases k <;> simp [valuesLawful]

/-- An AMEND is lawful for a class exactly when no field of it is in error (R53). -/
theorem AmendForm.lawful_iff {f : AmendForm} (h : f.LaidOut) (k : Class) :
    f.lawful k = true ↔ ¬ f.BadField k := by
  obtain ⟨-, -, -, -, -, -, -, -, -, h3, h5⟩ := h
  have hvalue : f.value.all (fun v => valuesLawful k v.1 v.2) = true ↔
      ¬ ∃ a b, f.value = some (a, b) ∧ (2047 < a ∨ (k = .limit ∧ (2047 < b ∨ b < a)) ∨ (k ≠ .limit ∧ b ≠ 0)) := by
    cases f.value with
    | none => simp
    | some v =>
      rw [Option.all_some, valuesLawful_iff_not]
      exact ⟨fun h ⟨a, b, he, hb⟩ => h (by cases he; exact hb), fun h hb => h ⟨v.1, v.2, rfl, hb⟩⟩
  have hrank : f.rank.all (rankLawful k) = true ↔
      ¬ ∃ n, f.rank = some n ∧ (15 < n ∨ (k = .blend ∧ n = 0)) := by
    cases f.rank <;> simp [rankLawful_iff]
  have hcap : f.cap.all (fun n => decide (n ≠ 0)) = true ↔ f.cap ≠ some 0 := by
    cases f.cap <;> simp
  have hboth : ∀ a b : Bool, (!(a && b)) = true ↔ ¬ (a = true ∧ b = true) := by decide
  have heither : ∀ a b : Bool, (!(a || b) || decide (k = .override)) = true ↔
      ¬ (k ≠ .override ∧ (a = true ∨ b = true)) := by
    intro a b
    cases a <;> cases b <;> simp
  simp only [AmendForm.lawful, Bool.and_eq_true, hvalue, hrank, hcap, bandLawful_iff, hboth, heither, h3, h5,
    AmendForm.BadField, not_or, Bool.not_eq_true', ← Bool.not_eq_true, and_assoc, ne_eq]

end Sys2Proof.Machine

/-! ## The demand table's requests and a loss of the link (R44, R50 to R54, R58, R59, R63) -/

namespace Sys2Proof.Machine

/-! ### POST -/

section Post

variable {s : State} {f : PostForm}

theorem ownPost_of_length (s : State) {p : List Byte}
    (h : ∀ flags, p[9]? = some flags →
      p.length ≠ 10 + 4 * (flags.getLsbD 0).toNat + (flags.getLsbD 1).toNat) :
    ownPost s p = refuse s .badLength := by
  unfold ownPost
  cases hp : parsePost p with
  | none => rfl
  | some f =>
    obtain ⟨laid, rfl⟩ := parsePost_eq_some hp
    exact absurd (PostForm.bytes_length laid) (h f.flags f.bytes_flags)

theorem ownPost_of_badField (laid : f.LaidOut) (h : f.BadField s) : ownPost s f.bytes = refuse s .badField := by
  unfold ownPost
  rw [parsePost_bytes laid]
  dsimp only
  cases hk : Class.ofCode f.cls with
  | none => rfl
  | some k => exact if_neg fun hl => (PostForm.lawful_iff s (Class.ofCode_eq_some hk)).1 hl h

/-- A POST with no field in error creates the record of its class (R52). -/
theorem ownPost_of_lawful (laid : f.LaidOut) (h : ¬ f.BadField s) :
    ∃ k : Class, f.cls = k.code ∧ ownPost s f.bytes = createRecord s (f.record k) := by
  cases hk : Class.ofCode f.cls with
  | none => exact absurd (.inl (Class.ofCode_eq_none hk)) h
  | some k =>
    refine ⟨k, Class.ofCode_eq_some hk, ?_⟩
    unfold ownPost
    rw [parsePost_bytes laid]
    dsimp only
    rw [hk]
    exact if_pos ((PostForm.lawful_iff s (Class.ofCode_eq_some hk)).2 h)

end Post

theorem lowestFree_eq_some {t : List Slot} {slot : Nat} {x : Slot} (hx : t[slot]? = some x) (hfree : x.record = none)
    (hbelow : ∀ i z, i < slot → t[i]? = some z → z.record.isSome = true) : lowestFree t = some slot := by
  obtain ⟨hlt, rfl⟩ := List.getElem?_eq_some_iff.1 hx
  refine List.findIdx?_eq_some_iff_getElem.2 ⟨hlt, by simp [hfree], fun i hi => ?_⟩
  have occupied := hbelow i t[i] hi (List.getElem?_eq_getElem _)
  rw [Option.isSome_iff_ne_none] at occupied
  simp [occupied]

theorem lowestFree_eq_none {t : List Slot} (h : ∀ x ∈ t, x.record.isSome = true) : lowestFree t = none :=
  List.findIdx?_eq_none_iff.2 fun x hx => by simpa [Option.isSome_iff_ne_none] using h x hx

theorem putRecord_eq_set {t : List Slot} {slot : Nat} {x : Slot} (hx : t[slot]? = some x) (r : Record) :
    putRecord t slot r = t.set slot { x with record := some r } := by
  rw [putRecord, List.modify_eq_set_getElem?, hx]
  rfl

theorem Class.code_injective {k l : Class} (h : k.code = l.code) : k = l := by
  cases k <;> cases l <;> simp_all [Class.code]

/-- Settles O23: the lowest free slot is the one whose predecessors are occupied. -/
theorem postCreatesTheRecord : Obligations.PostCreatesTheRecord := by
  intro s f r slot x hm hd laid hlawful hx hfree hbelow howner hcls hcams hrank hfirst hsecond hlife hremaining
    hband hcap houtcomes
  obtain ⟨k, hk, hown⟩ := ownPost_of_lawful laid hlawful
  have hr : f.record k = r := by
    obtain ⟨owner, cams, cls, rank, first, second, lifetime, remaining, band, cap, outcomes⟩ := r
    obtain rfl := Class.code_injective (hcls.trans hk)
    simp_all [PostForm.record, Outcome.fresh]
  have hgeneration : generationOf s.table slot = x.generation := by rw [generationOf, hx]; rfl
  have hcreate : createRecord s r = grant { s with table := s.table.set slot { x with record := some r } }
      [u8 (32 * x.generation + slot)] := by
    rw [createRecord, lowestFree_eq_some hx hfree hbelow]
    dsimp only
    rw [putRecord_eq_set hx, hgeneration, handleOf]
  refine (congrArg Host.Outcome.next (State.serve_inRun hm hd ownPost)).trans ?_
  rw [hown, hr, hcreate]
  rfl

/-- Settles O24: the checks of `ownPost` in R50's order. -/
theorem postIsRefused : Obligations.PostIsRefused := by
  intro s hm
  refine ⟨fun p hd hlength => ?_, fun f hd laid => ⟨fun hbad => ?_, fun hlawful hfull => ?_⟩⟩
  all_goals refine (congrArg Host.Outcome.next (State.serve_inRun hm hd ownPost)).trans ?_
  · rw [ownPost_of_length s hlength]
    rfl
  · rw [ownPost_of_badField laid hbad]
    rfl
  · obtain ⟨k, -, hown⟩ := ownPost_of_lawful laid hlawful
    rw [hown, createRecord, lowestFree_eq_none hfull]
    rfl

/-! ### AMEND -/

theorem ownAmend_of_length (s : State) {p : List Byte}
    (h : ∀ flags, p[1]? = some flags →
      p.length ≠ 2 + 4 * (flags.getLsbD 0).toNat + (flags.getLsbD 1).toNat + (flags.getLsbD 2).toNat
        + 4 * (flags.getLsbD 3).toNat + (flags.getLsbD 5).toNat) :
    ownAmend s p = refuse s .badLength := by
  unfold ownAmend
  cases hp : parseAmend p with
  | none => rfl
  | some f =>
    obtain ⟨laid, rfl⟩ := parseAmend_eq_some hp
    exact absurd (AmendForm.bytes_length laid) (h f.flags f.bytes_flags)

theorem amendPart_eq {α : Type} {set : Option α} {remove : Bool} (h : ¬ (set.isSome = true ∧ remove = true))
    (old : Option α) : amendPart set remove old = if remove = true then none else set.or old := by
  cases set with
  | none => cases remove <;> rfl
  | some a =>
    cases remove with
    | false => rfl
    | true => exact absurd ⟨rfl, rfl⟩ h

/-- What AMEND makes of a record is what its flags call for, where none is in error (R53, R54). -/
theorem AmendForm.apply_eq {f : AmendForm} {r r' : Record} (hlawful : ¬ f.BadField r.cls) (h : f.Changes r r') :
    f.apply r = r' := by
  simp only [AmendForm.BadField, not_or] at hlawful
  obtain ⟨-, hband, hcap, -⟩ := hlawful
  obtain ⟨owner, cls, cams, values, rank, lifetime, remaining, band, cap, outcomes⟩ := h
  obtain ⟨o', c', cls', rank', first', second', life', rem', band', cap', out'⟩ := r'
  dsimp only at *
  subst owner cls cams rank lifetime remaining band cap outcomes
  rw [AmendForm.apply, amendPart_eq hband, amendPart_eq hcap]
  cases hv : f.value with
  | none =>
    simp only [hv, Option.getD_none, Prod.mk.injEq] at values
    obtain ⟨rfl, rfl⟩ := values
    rfl
  | some v =>
    simp only [hv, Option.getD_some] at values
    subst values
    rfl

theorem State.live.lookup {s : State} {h : Byte} {r : Record} (hl : s.live h r) : lookup s.table h.toNat = some r :=
  (s.live_iff h r).1 hl

/-- Settles O27: the checks of `ownAmend` in R50's order. -/
theorem amendChangesTheRecord : Obligations.AmendChangesTheRecord := by
  refine ⟨fun s p hm hd hlength => ?_, fun s f hm hd laid hstale => ?_,
    fun s f r hm hd laid hlive => ⟨fun hbad => ?_, fun hlawful r' hr' => ?_⟩⟩
  all_goals refine (congrArg Host.Outcome.next (State.serve_inRun hm hd ownAmend)).trans ?_
  · rw [ownAmend_of_length s hlength]
    rfl
  · have hnone : lookup s.table f.handle = none := u8_toNat laid.1 ▸ (s.stale_iff _).1 hstale
    simp only [ownAmend, parseAmend_bytes laid, hnone]
    rfl
  · have hsome : lookup s.table f.handle = some r := u8_toNat laid.1 ▸ hlive.lookup
    have hno : f.lawful r.cls ≠ true := fun h => (AmendForm.lawful_iff laid r.cls).1 h hbad
    simp only [ownAmend, parseAmend_bytes laid, hsome, if_neg hno]
    rfl
  · have hsome : lookup s.table f.handle = some r := u8_toNat laid.1 ▸ hlive.lookup
    have hyes : f.lawful r.cls = true := (AmendForm.lawful_iff laid r.cls).2 hlawful
    have hslot : s.table[f.handle % 32]? = some ⟨f.handle / 32, some r⟩ := by
      have := hlive
      rwa [State.live, u8_toNat laid.1] at this
    simp only [ownAmend, parseAmend_bytes laid, hsome, if_pos hyes, AmendForm.apply_eq hlawful hr',
      putRecord_eq_set hslot]
    rfl

/-! ### QUERY and SCAN -/

theorem Record.reportedSecond_eq (r : Record) : r.reportedSecond = if r.cls = .limit then r.second else 0 := by
  unfold Record.reportedSecond
  cases r.cls <;> simp

theorem queryPayload_eq (h : Byte) (r : Record) :
    queryPayload h r =
      [h, u8 r.owner, u8 r.cls.code, camSetByte r.cams, u8 r.rank] ++ be16 r.first
        ++ be16 (if r.cls = .limit then r.second else 0)
        ++ [u8 r.lifetime, u8 r.remaining, u8 (r.band.isSome.toNat + 2 * r.cap.isSome.toNat)]
        ++ pairBytes (some (r.band.getD (0, 0))) ++ [u8 (r.cap.getD 0)]
        ++ (Cam.all.filter r.cams.get).map
          (fun c => u8 ((r.outcomes.get c).standing.code + 128 * (r.outcomes.get c).clipped.toNat)) := by
  simp only [queryPayload, Record.reportedSecond_eq, Record.outcomeList, List.map_map, pairBytes,
    List.append_assoc]
  rfl

theorem ownQuery_of_length {p : List Byte} (s : State) (h : p.length ≠ 1) : ownQuery s p = refuse s .badLength := by
  match p, h with
  | [], _ => rfl
  | _ :: _ :: _, _ => rfl

theorem ownScan_of_length {p : List Byte} (s : State) (h : p.length ≠ 1) : ownScan s p = refuse s .badLength := by
  match p, h with
  | [], _ => rfl
  | _ :: _ :: _, _ => rfl

/-- The live records stand in ascending slot order. -/
theorem entriesFrom_sorted (n : Nat) (t : List Slot) :
    (entriesFrom n t).Pairwise (fun a b => a.slot < b.slot) ∧ ∀ e ∈ entriesFrom n t, n ≤ e.slot := by
  induction t generalizing n with
  | nil => simp [entriesFrom]
  | cons x rest ih =>
    obtain ⟨sorted, above⟩ := ih (n + 1)
    cases hr : x.record with
    | none =>
      simp only [entriesFrom, hr]
      exact ⟨sorted, fun e he => Nat.le_of_succ_le (above e he)⟩
    | some r =>
      simp only [entriesFrom, hr, List.pairwise_cons, List.mem_cons]
      refine ⟨⟨fun e he => above e he, sorted⟩, ?_⟩
      rintro e (rfl | he)
      · exact le_rfl
      · exact Nat.le_of_succ_le (above e he)

theorem entries_sorted (t : List Slot) : (entries t).Pairwise (fun a b => a.slot < b.slot) :=
  (entriesFrom_sorted 0 t).1

theorem slot_lt_of_getElem? {t : List Slot} (hlength : t.length = 32) {i : Nat} {x : Slot} (h : t[i]? = some x) :
    i < 32 :=
  hlength ▸ (List.getElem?_eq_some_iff.1 h).1

/-- The records that SCAN selects are the live ones that a condition holds of. -/
theorem selected_eq_some {selector : Byte} (h : selector.toNat ≤ 15 ∨ selector = 0xFF#8) (t : List Slot) :
    ∃ p : Entry → Bool, selected t selector = some ((entries t).filter p) ∧
      ∀ e, p e = true ↔ (selector = 0xFF#8 ∨ e.record.owner = selector.toNat) := by
  by_cases hs : selector.toNat ≤ 15
  · have hne : selector ≠ 0xFF#8 := fun h => by rw [h] at hs; exact absurd hs (by decide)
    exact ⟨fun e => decide (e.record.owner = selector.toNat), if_pos hs, by simp [hne]⟩
  · have hff := h.resolve_left hs
    refine ⟨fun _ => true, ?_, by simp [hff]⟩
    rw [selected, if_neg hs, if_pos hff, List.filter_eq_self.2 fun _ _ => rfl]

theorem selected_eq_none {selector : Byte} (h : 15 < selector.toNat) (hff : selector ≠ 0xFF#8) (t : List Slot) :
    selected t selector = none := by
  rw [selected, if_neg (by omega), if_neg hff]

theorem handle_mod {x : Entry} (h : x.slot < 32) : x.handle % 32 = x.slot := by
  unfold Entry.handle handleOf; omega

/-- The handles of a selection of a table's live records: ascending in their slots, each naming its record. -/
theorem handles_of_selection {t : List Slot} (hlength : t.length = 32) (p : Entry → Bool) :
    ((((entries t).filter p).map Entry.handle).map (fun n => n % 32)).Pairwise (fun a b => a < b) ∧
    (∀ n ∈ ((entries t).filter p).map Entry.handle, ∃ x, t[n % 32]? = some x ∧ n = 32 * x.generation + n % 32) ∧
    ∀ (slot : Nat) (x : Slot), t[slot]? = some x →
      (32 * x.generation + slot ∈ ((entries t).filter p).map Entry.handle ↔
        ∃ r, x.record = some r ∧ p ⟨slot, x.generation, r⟩ = true) := by
  have small : ∀ e ∈ entries t, e.slot < 32 := fun e he => slot_lt_of_getElem? hlength ((mem_entries t e).1 he)
  refine ⟨?_, fun n hn => ?_, fun slot x hx => ⟨fun hn => ?_, ?_⟩⟩
  · rw [List.map_map, List.pairwise_map]
    refine ((entries_sorted t).filter p).imp_of_mem fun {a b} ha hb hab => ?_
    simpa only [Function.comp_apply, handle_mod (small a (List.mem_filter.1 ha).1),
      handle_mod (small b (List.mem_filter.1 hb).1)] using hab
  · obtain ⟨e, he, rfl⟩ := List.mem_map.1 hn
    have hmem := (List.mem_filter.1 he).1
    rw [handle_mod (small e hmem)]
    exact ⟨_, (mem_entries t e).1 hmem, rfl⟩
  · obtain ⟨e, he, hhandle⟩ := List.mem_map.1 hn
    obtain ⟨hmem, hp⟩ := List.mem_filter.1 he
    have hslot := small e hmem
    have hlt := slot_lt_of_getElem? hlength hx
    unfold Entry.handle handleOf at hhandle
    obtain rfl : e.slot = slot := by omega
    have hentry := (mem_entries t e).1 hmem
    rw [hx] at hentry
    obtain rfl := Option.some.inj hentry
    exact ⟨e.record, rfl, hp⟩
  · rintro ⟨r, hr, hp⟩
    obtain ⟨generation, record⟩ := x
    subst hr
    exact List.mem_map.2 ⟨⟨slot, generation, r⟩, List.mem_filter.2 ⟨(mem_entries t _).2 hx, hp⟩, rfl⟩

theorem camSetByte_bits (p : PerCam Bool) :
    (camSetByte p).toNat < 16 ∧ ∀ c : Cam, (camSetByte p).getLsbD c.index = p.get c := by
  obtain ⟨a, b, c, d⟩ := p
  cases a <;> cases b <;> cases c <;> cases d <;> exact ⟨by decide, fun c => by cases c <;> rfl⟩

/-- Settles O31: a selection keeps the order of the table, and a handle its slot. -/
theorem queryAndScanReport : Obligations.QueryAndScanReport := by
  refine ⟨rfl, rfl, camSetByte_bits, fun s hm hlength => ⟨fun h r hd hlive => ?_, fun h hd hstale => ?_,
    fun p hd hp => ?_, fun p hd hp => ?_, fun owner hd hsel => ?_, fun selector hd hlow hff => ?_⟩⟩
  · refine (congrArg Host.Outcome.next (State.serve_inRun hm hd ownQuery)).trans ?_
    rw [ownQuery, hlive.lookup, ← queryPayload_eq]
    rfl
  · refine (congrArg Host.Outcome.next (State.serve_inRun hm hd ownQuery)).trans ?_
    rw [ownQuery, (s.stale_iff h).1 hstale]
    rfl
  · refine (congrArg Host.Outcome.next (State.serve_inRun hm hd ownQuery)).trans ?_
    rw [ownQuery_of_length s hp]
    rfl
  · refine (congrArg Host.Outcome.next (State.serve_inRun hm hd ownScan)).trans ?_
    rw [ownScan_of_length s hp]
    rfl
  · obtain ⟨p, hselected, hp⟩ := selected_eq_some hsel s.table
    obtain ⟨sorted, names, all⟩ := handles_of_selection hlength p
    refine ⟨((entries s.table).filter p).map Entry.handle, ?_, sorted, names, fun slot x hx => ?_⟩
    · refine (congrArg Host.Outcome.next (State.serve_inRun hm hd ownScan)).trans ?_
      rw [ownScan, hselected, List.length_map, List.map_map]
      rfl
    · simp only [all slot x hx, hp]
  · refine (congrArg Host.Outcome.next (State.serve_inRun hm hd ownScan)).trans ?_
    rw [ownScan, selected_eq_none hlow hff]
    rfl

/-! ### Handles -/

theorem lookup_eq_some_iff (t : List Slot) (h : Nat) (r : Record) :
    lookup t h = some r ↔ ∃ x, t[h % 32]? = some x ∧ x.record = some r ∧ x.generation = h / 32 := by
  unfold lookup
  cases t[h % 32]? with
  | none => simp
  | some x => by_cases hg : x.generation = h / 32 <;> simp [hg]

/-- The generation after `n` retirements (R49). -/
theorem retire_repeat_generation (r : Record) {g : Nat} (hg : g < 8) (n : Nat) :
    Nat.repeat (fun g => (Slot.retire ⟨g, some r⟩).generation) n g = (g + n) % 8 := by
  induction n with
  | zero => exact (Nat.mod_eq_of_lt hg).symm
  | succ n ih =>
    rw [Nat.repeat, ih]
    change ((g + n) % 8 + 1) % 8 = (g + (n + 1)) % 8
    omega

/-- Settles O32: retirements add up modulo 8. -/
theorem handleNamesOneRecord : Obligations.HandleNamesOneRecord := by
  refine ⟨lookup_eq_some_iff, fun slot g hslot hg => ?_, fun g n r hg h1 h8 => ?_⟩
  · unfold handleOf
    omega
  · rw [retire_repeat_generation r hg]
    omega

/-! ### A loss of the link -/

theorem Slot.retire_eq (x : Slot) :
    x.retire = if x.record.isSome = true then ⟨(x.generation + 1) % 8, none⟩ else x := by
  unfold Slot.retire
  cases h : x.record <;> rfl

theorem purge_eq (t : List Slot) :
    purge t = t.map (fun x => if x.record.isSome = true then ⟨(x.generation + 1) % 8, none⟩ else x) :=
  List.map_congr_left fun x _ => x.retire_eq

/-- A running timer has expired, in a number of milliseconds. -/
theorem timer_expired_iff (timer : Option Nat) (ms t : Nat) :
    timer.any (fun t0 => expired t0 (msTicks ms) t) = true ↔ ∃ t0, timer = some t0 ∧ t0 + ms * 10000 ≤ t := by
  cases timer with
  | none => simp
  | some t0 => 
    simp only [Option.any_some, expired, msTicks, Option.some.injEq, exists_eq_left']
    exact decide_eq_true_iff

/-- Settles O34: the purge retires each occupied slot, and an early command finds no expiry. -/
theorem linkLossPurgesTheTable : Obligations.LinkLossPurgesTheTable := by
  intro t s ht
  rw [exec_linkLoss_eq ht]
  refine ⟨fun hearly => ?_, fun t0 ht0 hlate => ?_⟩
  · rw [if_neg]
    rw [timer_expired_iff]
    rintro ⟨t0, ht0, h⟩
    have := hearly t0 ht0
    omega
  · rw [if_pos ((timer_expired_iff _ _ _).2 ⟨t0, ht0, hlate⟩), purge_eq]
    rfl

end Sys2Proof.Machine

/-! ## Requests keep soundness -/

namespace Sys2Proof.Machine

/-! ### A request at its owner -/

/-- A change of the link that keeps what the mode asks of it. -/
theorem Sound.with_link {s : State} (hs : Sound s) {l : Link} (hl : LinkSound { s with link := l })
    (hconfig : s.mode = .config → l.timer = none)
    (hrun : s.mode = .run → l.timer.isSome = true ∧ l.ready = true) : Sound { s with link := l } where
  items := hs.items
  mode := ⟨fun h => ⟨(hs.mode.1 h).1, (hs.mode.1 h).2.1, hconfig h⟩,
    fun h => ⟨(hs.mode.2.1 h).1, (hrun h).1, (hrun h).2, (hs.mode.2.1 h).2.2.2⟩, hs.mode.2.2⟩
  tracker := hs.tracker
  table := hs.table
  outcomes := hs.outcomes
  cams := fun c => (hs.cams c).congr (s := s) rfl rfl id rfl rfl rfl
  parkLine := hs.parkLine
  link := hl
  counters := hs.counters

theorem Sound.with_link_same {s : State} (hs : Sound s) {l : Link} (hl : LinkSound { s with link := l })
    (htimer : l.timer = s.link.timer) (hready : l.ready = s.link.ready) : Sound { s with link := l } :=
  hs.with_link hl (fun h => htimer ▸ (hs.mode.1 h).2.2)
    fun h => ⟨htimer ▸ (hs.mode.2.1 h).2.1, hready ▸ (hs.mode.2.1 h).2.2.1⟩

/-- A delivered request is taken, and its answer is in hand (R166). -/
theorem Sound.answer {s : State} (hs : Sound s) (hd : s.link.delivered.isSome = true) {a : Answer}
    (ha : ∀ echo result p, a = .response echo result p → p.length ≤ 40) :
    Sound { s with link := { s.link with delivered := none, answer := some a } } := by
  refine hs.with_link_same ?_ rfl rfl
  obtain ⟨busy, one, notBoth, ready, formed, waiting, early, short, -, -, buffer⟩ := hs.link
  have hbusy : s.link.busy = true := one.2 (by rw [notBoth hd, hd]; rfl)
  unfold LinkSound
  dsimp only
  refine ⟨busy, ⟨fun _ => rfl, fun _ => hbusy⟩, nofun, ready, formed, waiting, early, short, ?_, trivial, buffer⟩
  cases a with
  | response echo result p => exact ha echo result p rfl
  | softReset => trivial

/-- What soundness asks of an owner's reply: a sound state that leaves the request delivered, and a payload that
fits a frame. -/
structure ReplyFits (s : State) (y : Reply) : Prop where
  sound : Sound y.state
  delivered : y.state.link.delivered = s.link.delivered
  short : y.payload.length ≤ 40

theorem ReplyFits.refuse {s : State} (hs : Sound s) (r : Result) : ReplyFits s (refuse s r) :=
  ⟨hs, rfl, Nat.zero_le _⟩

/-- A request keeps soundness if its owner's reply fits. -/
theorem Sound.serve {s : State} (hs : Sound s) (r : Request) {owner : State → List Byte → Reply}
    (h : ∀ p, s.delivers r p → ReplyFits s (owner s p)) : Sound (s.serve r owner) := by
  by_cases hd : ∃ p, s.delivers r p
  · obtain ⟨p, hd⟩ := hd
    obtain ⟨sound, delivered, short⟩ := h p hd
    rw [State.serve_of_delivers hd]
    refine sound.answer (by rw [delivered, show s.link.delivered = _ from hd]; rfl) ?_
    rintro _ _ _ ⟨⟩
    exact short
  · rwa [State.serve_of_not fun p hp => hd ⟨p, hp⟩]

theorem ReplyFits.inRun {s : State} (hs : Sound s) {owner : State → List Byte → Reply} {p : List Byte}
    (h : s.mode = .run → ReplyFits s (owner s p)) : ReplyFits s (inRun owner s p) := by
  unfold Machine.inRun
  split
  next hm => exact h hm
  next => exact .refuse hs _

theorem ReplyFits.inConfig {s : State} (hs : Sound s) {owner : State → List Byte → Reply} {p : List Byte}
    (h : s.mode = .config → ReplyFits s (owner s p)) : ReplyFits s (inConfig owner s p) := by
  unfold Machine.inConfig
  split
  next hm => exact h hm
  next => exact .refuse hs _

theorem Record.remainingSound_of_full {r : Record} (h : r.remaining = r.lifetime) : r.RemainingSound := by
  unfold Record.RemainingSound
  split <;> omega

section Owners

variable {s : State} (hs : Sound s)
include hs

/-! ### Status (10) -/

theorem ReplyFits.nop (p : List Byte) : ReplyFits s (ownNop s p) := by
  unfold ownNop
  split
  · exact ⟨hs, rfl, Nat.zero_le _⟩
  · exact .refuse hs _

theorem ReplyFits.engineStatus (p : List Byte) : ReplyFits s (ownEngineStatus s p) := by
  unfold ownEngineStatus
  split
  · exact ⟨hs, rfl, show 10 ≤ 40 by omega⟩
  · exact .refuse hs _

omit hs in
theorem camStatusPayload_length (k : CamState) (x : CamItems) (sensed : Nat) :
    (camStatusPayload k x sensed).length = 32 := rfl

theorem Sound.draw : Sound s.draw := hs.besides hs.tracker (fun h => (hs.mode.1 h).1) (fun h => h) hs.counters

theorem ReplyFits.camStatus (p : List Byte) : ReplyFits s (ownCamStatus s p) := by
  unfold ownCamStatus
  split
  · split
    next c _ =>
      have drawn : Sound (s.drawFor (s.cam c).channel.mean) ∧
          (s.drawFor (s.cam c).channel.mean).link.delivered = s.link.delivered := by
        unfold State.drawFor
        split
        · exact ⟨hs.draw, rfl⟩
        · exact ⟨hs, rfl⟩
      exact ⟨drawn.1, drawn.2, by rw [camStatusPayload_length]; omega⟩
    next => exact .refuse hs _
  · exact .refuse hs _

omit hs in
theorem be16_length (n : Nat) : (be16 n).length = 2 := rfl

theorem ReplyFits.noticeRead (p : List Byte) : ReplyFits s (ownNoticeRead s p) := by
  unfold ownNoticeRead
  split
  · refine ⟨?_, rfl, ?_⟩
    · exact hs.besides hs.tracker (fun h => (hs.mode.1 h).1) (fun h => h) hs.counters
    · rw [grant, be16_length]; omega
  · exact .refuse hs _

theorem ReplyFits.noticeMask (p : List Byte) : ReplyFits s (ownNoticeMask s p) := by
  unfold ownNoticeMask
  split
  · refine ⟨?_, rfl, ?_⟩
    · exact hs.besides hs.tracker (fun h => (hs.mode.1 h).1) (fun h => h) hs.counters
    · rw [grant, be16_length]; omega
  · exact .refuse hs _

omit hs in
/-- A clear sets the counters of its group to 0 and keeps the others (R180). -/
theorem Counters.clearGroup_get_le (k : Counters) (g : Group) (i : Counter) :
    (k.clearGroup g).get i ≤ k.get i := by
  cases g with
  | engine => cases i <;> first | exact Nat.zero_le _ | exact le_rfl
  | link => cases i <;> first | exact Nat.zero_le _ | exact le_rfl
  | ofCam c =>
    cases i with
    | ofCam b i =>
      simp only [Counters.clearGroup, Counters.get, PerCam.get_set]
      split
      · cases i <;> exact Nat.zero_le _
      · exact le_rfl
    | _ => exact le_rfl

omit hs in
theorem Counters.clearGroup_cycles_le (k : Counters) (g : Group) : (k.clearGroup g).cycles ≤ k.cycles := by
  cases g <;> first | exact Nat.zero_le _ | exact le_rfl

theorem CountersSound.clearGroup (g : Group) : CountersSound { s with counters := s.counters.clearGroup g } :=
  ⟨fun k => (s.counters.clearGroup_get_le g k).trans (hs.counters.1 k),
    (s.counters.clearGroup_cycles_le g).trans_lt hs.counters.2⟩

omit hs in
/-- One of two sound states. -/
theorem Sound.ite {u v : State} {p : Prop} [Decidable p] (hu : Sound u) (hv : Sound v) : Sound (if p then u else v) := by
  split
  · exact hu
  · exact hv

omit hs in
theorem Counters.groupPayload_length (k : Counters) (g : Group) : (k.groupPayload g).length ≤ 12 := by
  cases g <;> simp [Counters.groupPayload, be16, be32]

theorem ReplyFits.countersRead (p : List Byte) : ReplyFits s (ownCountersRead s p) := by
  unfold ownCountersRead
  split
  · split
    next g _ =>
      split
      · exact .refuse hs _
      · have := s.counters.groupPayload_length g
        refine ⟨Sound.ite (hs.with_counters (CountersSound.clearGroup hs g)) hs, ?_, by dsimp only [grant]; omega⟩
        rw [grant]
        split <;> rfl
    next => exact .refuse hs _
  · exact .refuse hs _

/-! ### The demand table (03) -/

omit hs in
theorem mem_modify {α : Type} {f : α → α} {l : List α} {i : Nat} {x : α} (h : x ∈ l.modify i f) :
    x ∈ l ∨ ∃ z ∈ l, x = f z := by
  obtain ⟨j, hj⟩ := List.mem_iff_getElem?.1 h
  rw [List.getElem?_modify] at hj
  obtain ⟨z, hz, rfl⟩ := Option.map_eq_some_iff.1 hj
  have hmem := List.mem_of_getElem? hz
  by_cases hij : i = j
  · exact .inr ⟨z, hmem, by rw [if_pos hij]⟩
  · exact .inl (by rw [if_neg hij]; exact hmem)

/-- One slot changed into a sound one. -/
theorem Sound.modify_table {f : Slot → Slot} (h : ∀ x, SlotSound s x → SlotSound s (f x)) (i : Nat) :
    Sound { s with table := s.table.modify i f } :=
  hs.with_table (by rw [List.length_modify]; exact hs.table.1) fun x hx => by
    rcases mem_modify hx with hx | ⟨z, hz, rfl⟩
    · exact hs.slot hx
    · exact h z (hs.slot hz)

/-- A record with every outcome PENDING, put in a slot in RUN. -/
theorem Sound.putRecord (hm : s.mode = .run) {r : Record} (hr : r.Sound s) (ho : r.outcomes = .const .fresh)
    (i : Nat) : Sound { s with table := putRecord s.table i r } :=
  hs.modify_table (f := fun x => { x with record := some r })
    (fun x hx => ⟨hx.1, fun h => (by rw [hm] at h; cases h), fun r' hr' => by
      obtain rfl := Option.some.inj hr'
      exact ⟨hr, fun c _ => by rw [ho]; exact PerCam.get_const _ _⟩⟩) i

omit hs in
theorem camSetOf_ne_const {b : Byte} (h : b ≠ 0#8) (hsmall : b.toNat < 16) : camSetOf b ≠ .const false := by
  intro he
  have bits : ∀ b : Byte, b ≠ 0#8 → b.toNat < 16 →
      (b.getLsbD 0 || b.getLsbD 1 || b.getLsbD 2 || b.getLsbD 3) = true := by decide
  have some := bits b h hsmall
  simp only [camSetOf, PerCam.const, PerCam.mk.injEq] at he
  obtain ⟨h0, h1, h2, h3⟩ := he
  rw [h0, h1, h2, h3] at some
  cases some

omit hs in
/-- The record that a lawful POST creates (R45 to R48, R52). -/
theorem PostForm.record_sound {f : PostForm} (laid : f.LaidOut) {k : Class} (h : f.lawful s k = true) :
    (f.record k).Sound s := by
  obtain ⟨-, -, -, -, -, life, pband, pcap, -, -⟩ := laid
  simp only [PostForm.lawful, Bool.and_eq_true, decide_eq_true_eq, camSetLawful_iff] at h
  obtain ⟨⟨⟨⟨⟨⟨owner, nonempty, small, enabled⟩, rank⟩, values⟩, band⟩, cap⟩, -⟩ := h
  refine ⟨owner, rank, values, by dsimp only [PostForm.record]; omega, ?_, ?_, ?_, camSetOf_ne_const nonempty small,
    fun c => ⟨enabled c, fun _ => PerCam.get_const _ _, fun hc => ?_⟩⟩
  · exact Record.remainingSound_of_full rfl
  · simp only [PostForm.record]
    unfold bandLawful at band
    cases hb : f.band with
    | none => rfl
    | some b =>
      simp only [hb, Option.all_some, decide_eq_true_eq] at band pband ⊢
      omega
  · simp only [PostForm.record]
    cases hc : f.cap with
    | none => rfl
    | some n =>
      simp only [hc, Option.all_some, decide_eq_true_eq] at cap pcap ⊢
      exact decide_eq_true ⟨cap.1, by omega, by omega⟩
  · rw [show (f.record k).outcomes = .const .fresh from rfl, PerCam.get_const] at hc
    cases hc

theorem ReplyFits.post (hm : s.mode = .run) (p : List Byte) : ReplyFits s (ownPost s p) := by
  unfold ownPost
  split
  · exact .refuse hs _
  next f hf =>
    split
    · exact .refuse hs _
    next k _ =>
      split
      next hlawful =>
        unfold createRecord
        split
        · exact ⟨hs.putRecord hm (PostForm.record_sound (parsePost_eq_some hf).1 hlawful) rfl _, rfl,
            Nat.succ_le_succ (Nat.zero_le _)⟩
        · exact ⟨hs.count _, rfl, Nat.zero_le _⟩
      next => exact .refuse hs _

omit hs in
theorem lookup_mem {h : Nat} {r : Record} (hl : lookup s.table h = some r) :
    ∃ x ∈ s.table, x.record = some r := by
  obtain ⟨x, hx, hr, -⟩ := (lookup_eq_some_iff _ _ _).1 hl
  exact ⟨x, List.mem_of_getElem? hx, hr⟩

omit hs in
/-- What a lawful AMEND makes of a sound record (R54). -/
theorem AmendForm.apply_sound {f : AmendForm} (laid : f.LaidOut) {r : Record} (hr : r.Sound s)
    (h : f.lawful r.cls = true) : (f.apply r).Sound s := by
  obtain ⟨-, -, -, plife, pband, pcap, -, -, -, fband, fcap⟩ := laid
  obtain ⟨owner, rank, values, lifetime, remaining, band, cap, cams, entries⟩ := hr
  simp only [AmendForm.lawful, Bool.and_eq_true, Bool.or_eq_true, decide_eq_true_eq, Bool.not_eq_true'] at h
  obtain ⟨⟨⟨⟨⟨⟨⟨-, -⟩, -⟩, hvalue⟩, hrank⟩, hband⟩, hcap⟩, hclass⟩ := h
  refine ⟨owner, ?_, ?_, ?_, ?_, ?_, ?_, cams, fun c => ⟨(entries c).1, fun _ => PerCam.get_const _ _, fun hc => ?_⟩⟩
  · simp only [AmendForm.apply, Record.withdraw]
    cases hv : f.rank with
    | none => exact rank
    | some n => simpa [hv] using hrank
  · simp only [AmendForm.apply, Record.withdraw]
    cases hv : f.value with
    | none => exact values
    | some n => simpa [hv] using hvalue
  · simp only [AmendForm.apply, Record.withdraw]
    cases hv : f.lifetime with
    | none => exact lifetime
    | some n =>
      have : n < 256 := by simpa [hv] using plife
      simp only [Option.getD_some]
      omega
  · cases hv : f.lifetime with
    | none => simpa only [Record.RemainingSound, AmendForm.apply, Record.withdraw, hv, Option.getD_none] using remaining
    | some n => exact Record.remainingSound_of_full (by simp only [AmendForm.apply, Record.withdraw, hv, Option.getD_some])
  · simp only [AmendForm.apply, Record.withdraw, amendPart]
    unfold bandLawful at hband
    cases hv : f.band with
    | none =>
      dsimp only
      split
      · rfl
      · exact band
    | some b =>
      simp only [hv, Option.all_some, decide_eq_true_eq] at hband pband ⊢
      omega
  · simp only [AmendForm.apply, Record.withdraw, amendPart]
    cases hv : f.cap with
    | none =>
      dsimp only
      split
      · rfl
      · exact cap
    | some n =>
      have override : r.cls = .override := hclass.resolve_left (by rw [fcap, hv]; simp)
      simp only [hv, Option.all_some, decide_eq_true_eq] at hcap pcap ⊢
      exact decide_eq_true ⟨override, by omega, by omega⟩
  · rw [show (f.apply r).outcomes = .const .fresh from rfl, PerCam.get_const] at hc
    cases hc

theorem ReplyFits.amend (hm : s.mode = .run) (p : List Byte) : ReplyFits s (ownAmend s p) := by
  unfold ownAmend
  split
  · exact .refuse hs _
  next f hf =>
    split
    · exact .refuse hs _
    next r hl =>
      split
      next hlawful =>
        obtain ⟨x, hx, hr⟩ := lookup_mem hl
        have sound := ((hs.slot hx).2.2 r hr).1
        exact ⟨hs.putRecord hm (AmendForm.apply_sound (parseAmend_eq_some hf).1 sound hlawful) rfl _, rfl,
          Nat.zero_le _⟩
      next => exact .refuse hs _

omit hs in
theorem SlotSound.renewed {x : Slot} (h : SlotSound s x) : SlotSound s x.renewed := by
  obtain ⟨generation, config, records⟩ := h
  refine ⟨generation, fun hm => by rw [Slot.renewed_record, config hm]; rfl, fun r hr => ?_⟩
  obtain ⟨r0, hr0, rfl⟩ := Option.map_eq_some_iff.1 hr
  obtain ⟨⟨owner, rank, values, lifetime, -, rest⟩, fresh⟩ := records r0 hr0
  refine ⟨⟨owner, rank, values, lifetime, ?_, rest⟩, fresh⟩
  exact Record.remainingSound_of_full rfl

theorem ReplyFits.renew (p : List Byte) : ReplyFits s (ownRenew s p) := by
  unfold ownRenew
  split
  next hlen =>
    refine ⟨hs.with_table (by rw [renewAll_length]; exact hs.table.1) fun x hx => ?_, rfl,
      by rw [grant, renewAll_results, List.length_map]; omega⟩
    obtain ⟨i, hi⟩ := List.mem_iff_getElem?.1 hx
    rw [renewAll_getElem?, Option.map_eq_some_iff] at hi
    obtain ⟨z, hz, rfl⟩ := hi
    have sound := hs.slot (List.mem_of_getElem? hz)
    unfold Slot.renewedBy
    split
    · exact sound.renewed
    · exact sound
  next => exact .refuse hs _

theorem ReplyFits.retire (p : List Byte) : ReplyFits s (ownRetire s p) := by
  unfold ownRetire
  split
  · split
    · exact ⟨hs.modify_table (fun _ h => h.retire) _, rfl, Nat.zero_le _⟩
    · exact .refuse hs _
  · exact .refuse hs _

theorem ReplyFits.retireOwner (p : List Byte) : ReplyFits s (ownRetireOwner s p) := by
  unfold ownRetireOwner
  split
  next b =>
    split
    · exact .refuse hs _
    · refine ⟨hs.map_table (f := fun x => if x.holds (Record.ownedBy b.toNat) then x.retire else x)
        fun x hx => ?_, rfl, Nat.succ_le_succ (Nat.zero_le _)⟩
      split
      · exact hx.retire
      · exact hx
  · exact .refuse hs _

omit hs in
theorem queryPayload_length (h : Byte) (r : Record) : (queryPayload h r).length ≤ 21 := by
  have : (Cam.all.filter (fun c => r.cams.get c)).length ≤ 4 := List.length_filter_le _ _
  simp only [queryPayload, be16, Record.outcomeList, List.length_append, List.length_cons, List.length_nil,
    List.length_map]
  omega

theorem ReplyFits.query (p : List Byte) : ReplyFits s (ownQuery s p) := by
  unfold ownQuery
  split
  next b =>
    split
    next r _ =>
      have := queryPayload_length b r
      exact ⟨hs, rfl, by dsimp only [grant]; omega⟩
    next => exact .refuse hs _
  · exact .refuse hs _

omit hs in
theorem entriesFrom_length_le (n : Nat) (t : List Slot) : (entriesFrom n t).length ≤ t.length := by
  induction t generalizing n with
  | nil => simp [entriesFrom]
  | cons x rest ih =>
    have := ih (n + 1)
    cases hr : x.record <;> simp only [entriesFrom, hr, List.length_cons] <;> omega

omit hs in
theorem selected_length_le {t : List Slot} {b : Byte} {es : List Entry} (h : selected t b = some es) :
    es.length ≤ t.length := by
  have all := entriesFrom_length_le 0 t
  unfold selected at h
  split at h
  · obtain rfl := Option.some.inj h
    exact (List.length_filter_le _ _).trans all
  · split at h
    · obtain rfl := Option.some.inj h
      exact all
    · cases h

theorem ReplyFits.scan (p : List Byte) : ReplyFits s (ownScan s p) := by
  unfold ownScan
  split
  · split
    next es hes =>
      have := selected_length_le hes
      refine ⟨hs, rfl, ?_⟩
      rw [grant, List.length_cons, List.length_map]
      have := hs.table.1
      omega
    next => exact .refuse hs _
  · exact .refuse hs _

/-! ### The sequencers' requests (05) -/

theorem Sound.beginLearn {c : Cam} (hp : (s.cam c).phaser.state = .parked)
    (hengine : s.tracker.sync.isEngine = true) : Sound (s.beginLearn c) := by
  refine hs.setCam ⟨?_, ?_, ?_, ?_, ?_, ?_⟩ Iff.rfl id
  · exact (hs.cams c).lane.set rfl Iff.rfl
  · exact (hs.cams c).arbiter.set rfl id id
  · obtain ⟨enabled, causes, forced, service, moving, -, -, park, error, count, runs⟩ := (hs.cams c).sequencer
    simp only [SequencerSound, State.enabled_iff, State.setCam_cam_self, State.setCam_cfg, State.setCam_mode,
      State.setCam_tracker, State.setCam_parkLine, State.setCam_told] at enabled ⊢
    exact ⟨enabled, causes, forced, service, moving, fun _ => ⟨hp, hengine, by omega⟩, by omega, park, error,
      count, runs⟩
  · exact (hs.cams c).loop.set rfl id
  · exact (hs.cams c).command.set rfl rfl
  · exact (hs.cams c).channel.set rfl id

theorem ReplyFits.learn (p : List Byte) : ReplyFits s (ownLearn s p) := by
  unfold ownLearn
  split
  · split
    · split
      · exact .refuse hs _
      · split
        next h => exact ⟨hs.beginLearn h.1 h.2, rfl, Nat.zero_le _⟩
        next => exact .refuse hs _
    · exact .refuse hs _
  · exact .refuse hs _

omit hs in
theorem ParkLine.restState_ne (line : ParkLine) :
    line.restState ≠ .disabled ∧ line.restState ≠ .releasing ∧ line.restState ≠ .tracking ∧
      line.restState ≠ .fault := by
  cases line <;> decide

omit hs in
/-- A channel without a command is not DRIVEN, and its re-arming clears its latch alone (R136, R144). -/
theorem Channel.rearm_of_quiet {h : Channel} (h0 : h.command = 0) {line : ParkLine} {hz : Nat}
    (hf : h.Follows line) (hb : h.Bounded hz) : h.rearm line = { h with latch := .none } := by
  have off : h.output = .off := by
    cases ho : h.output with
    | off => rfl
    | driven => have := (Channel.mayDrive_iff h line).1 (hf.1 ho); omega
  obtain ⟨-, duty, limited, run, -, -⟩ := hb.1 off
  obtain ⟨command, output, d, closed, mean, l, latch, r, whole, starting⟩ := h
  dsimp only at h0 off duty limited run
  subst h0 off duty limited run
  rfl

theorem Sound.clearFault {c : Cam} (hp : (s.cam c).phaser.state = .fault) : Sound (s.clearFault c) := by
  have he := State.enabled_of_state hp nofun
  obtain ⟨alive, notReleasing, notTracking, healthy⟩ := s.parkLine.restState_ne
  have henabled : (s.clearFault c).enabled c = s.enabled c := by
    rw [he, State.enabled_iff, State.clearFault, State.setCam_cam_self]
    exact alive
  unfold State.clearFault at henabled ⊢
  dsimp only at henabled ⊢
  refine hs.setCam ⟨?_, ?_, ?_, ?_, ?_, ?_⟩ (by simp [hp, alive]) (fun h => absurd h healthy)
  · obtain ⟨geometry, -, valid, offset, config, out, -⟩ := (hs.cams c).lane
    simp only [LaneSound, State.setCam_cam_self, State.setCam_cfg, State.setCam_items,
      State.setCam_mode, State.setCam_tracker, henabled]
    exact ⟨geometry, Nat.zero_le _, fun hv => ⟨(valid hv).1, hs.items.missLimit c⟩, offset, config,
      fun h => ⟨trivial, (out h).2⟩, fun _ => trivial⟩
  · exact (hs.cams c).arbiter.set rfl (fun h => absurd h healthy) (fun h => absurd h alive)
  · obtain ⟨enabled, -, -, -, -, learn, samples, park, error, -, runs⟩ := (hs.cams c).sequencer
    have idle : (s.cam c).phaser.learning ≠ true := fun h => by simp [hp] at learn; simp [h] at learn
    simp only [SequencerSound, State.enabled_iff, State.setCam_cam_self, State.setCam_cfg, State.setCam_mode,
      State.setCam_tracker, State.setCam_parkLine, State.setCam_told]
    refine ⟨⟨fun _ => enabled.1 he, fun _ => alive⟩, by simp [healthy], fun h => ?_, fun h => ?_,
      by simp [notReleasing, notTracking], fun h => absurd h idle, samples, park, error,
      fun h => absurd h notReleasing, fun _ => runs (by simp [hp])⟩
    · cases hl : s.parkLine with
      | asserted => rfl
      | released => rw [hl] at h; cases h
    · cases hl : s.parkLine with
      | released => exact .inl rfl
      | asserted => rw [hl] at h; cases h
  · obtain ⟨ramped, integrator, still⟩ := (hs.cams c).loop
    simp only [LoopSound, State.setCam_cam_self, State.setCam_cfg]
    exact ⟨ramped, integrator, fun _ => still (by simp [hp])⟩
  all_goals
    obtain ⟨max, -, none⟩ := (hs.cams c).command
    obtain ⟨follows, bounded, -⟩ := (channelSound_iff s c).1 (hs.cams c).channel
    have quiet := Channel.rearm_of_quiet (none (by simp [hp]) (by simp [hp])) follows bounded
  · simp only [CommandSound, State.setCam_cam_self, State.setCam_cfg, quiet]
    exact ⟨max, fun h => absurd h notReleasing, fun _ _ => none (by simp [hp]) (by simp [hp])⟩
  · rw [channelSound_iff, State.setCam_cam_self]
    exact ⟨Channel.follow_follows _ _, by dsimp only; rw [quiet]; exact bounded, by simp [quiet]⟩

theorem ReplyFits.clearFault (p : List Byte) : ReplyFits s (ownClearFault s p) := by
  unfold ownClearFault
  split
  · split
    · split
      next h => exact ⟨hs.clearFault h, rfl, Nat.zero_le _⟩
      next => exact .refuse hs _
    · exact .refuse hs _
  · exact .refuse hs _

end Owners

end Sys2Proof.Machine

/-! ## The configuration store and the resets keep soundness (R151, R156, R158, R171) -/

namespace Sys2Proof.Machine

/-! ### A part at rest -/

/-- A cam as COMMIT, REOPEN or a reset leaves it (R94, R156, R158, R171): enabled in RUN alone, and without a
displacement, a result, a fault or a command. -/
structure AtRest (s : State) (c : Cam) : Prop where
  state : (s.cam c).phaser.state =
    if s.mode = .run ∧ (s.cfg c).enable = true then s.parkLine.restState else .disabled
  causes : (s.cam c).phaser.causes = .empty
  idle : (s.cam c).phaser.learning = false
  samples : (s.cam c).phaser.samples ≤ 8
  runs : (s.cam c).phaser.parkRun = 0 ∧ (s.cam c).phaser.errorRun = 0 ∧ (s.cam c).phaser.eventSeen = false ∧
    (s.cam c).phaser.allOver = true
  windows : (s.cam c).lane.windows =
    if s.mode = .run ∧ (s.cfg c).enable = true then buildWindows (s.cfg c) else []
  missRun : (s.cam c).lane.missRun = 0
  invalid : (s.cam c).lane.valid = false
  offset : (s.cam c).lane.offset.natAbs ≤ s.items.global.learnLimit
  learned : s.mode = .config → (s.cam c).lane.offset = 0
  arbiter : (s.cam c).arbiter = .reset
  loop : (s.cam c).loop = .reset
  command : (s.cam c).channel.command = 0
  latch : (s.cam c).channel.latch = .none
  off : (s.cam c).channel.output = .off
  bounded : (s.cam c).channel.Bounded s.items.global.pwmHz

theorem buildWindows_clean {k : CamItems} {w : Window} (h : w ∈ buildWindows k) : w.hit = false ∧ w.late = false := by
  obtain ⟨b, -, rfl⟩ := List.mem_map.1 h
  exact ⟨rfl, rfl⟩

theorem AtRest.enabled_iff {s : State} {c : Cam} (h : AtRest s c) :
    s.enabled c = true ↔ s.mode = .run ∧ (s.cfg c).enable = true := by
  rw [State.enabled_iff, h.state]
  split
  next hc => exact ⟨fun _ => hc, fun _ => s.parkLine.restState_ne.1⟩
  next hc => exact ⟨fun h => absurd rfl h, fun h => absurd h hc⟩

/-- A cam at rest does not move and is not in FAULT. -/
theorem AtRest.still {s : State} {c : Cam} (h : AtRest s c) :
    (s.cam c).phaser.state ≠ .releasing ∧ (s.cam c).phaser.state ≠ .tracking ∧ (s.cam c).phaser.state ≠ .fault := by
  rw [h.state]
  obtain ⟨-, h1, h2, h3⟩ := s.parkLine.restState_ne
  split
  · exact ⟨h1, h2, h3⟩
  · decide

theorem AtRest.camSound {s : State} {c : Cam} (hitems : s.items.Lawful) (h : AtRest s c) : CamSound s c := by
  obtain ⟨notReleasing, notTracking, healthy⟩ := h.still
  constructor
  · have clean : ∀ w ∈ (s.cam c).lane.windows, w.hit = false ∧ w.late = false := by
      rw [h.windows]
      split
      · exact fun _ hw => buildWindows_clean hw
      · exact fun w hw => absurd hw List.not_mem_nil
    simp only [LaneSound, h.enabled_iff, h.missRun, h.invalid]
    refine ⟨?_, Nat.zero_le _, nofun, h.offset, h.learned, fun _ => ⟨trivial, clean⟩, fun _ => trivial⟩
    rw [h.windows]
    split <;> rfl
  · simp only [ArbiterSound, h.arbiter]
    exact ⟨Nat.zero_le _, fun _ => ⟨rfl, rfl, .inl rfl⟩, fun _ => rfl, fun _ => trivial⟩
  · obtain ⟨park, error, seen, allOver⟩ := h.runs
    simp only [SequencerSound, h.enabled_iff, h.causes, h.idle, park, error, seen, allOver]
    refine ⟨trivial, ⟨fun _ => healthy, fun _ => trivial⟩, fun hf => ?_, fun hp => ?_, fun hm => ?_, nofun, h.samples,
      Nat.zero_le _, hitems.trackErrCycles c, fun hm => absurd hm notReleasing,
      fun _ => ⟨trivial, trivial, trivial, trivial⟩⟩
    · rw [h.state] at hf
      split at hf
      · cases hl : s.parkLine with
        | asserted => rfl
        | released => rw [hl] at hf; cases hf
      · cases hf
    · rw [h.state] at hp
      split at hp
      · cases hl : s.parkLine with
        | released => exact .inl rfl
        | asserted => rw [hl] at hp; cases hp
      · cases hp
    · exact absurd hm (by simp [notReleasing, notTracking])
  · simp only [LoopSound, h.loop]
    exact ⟨Nat.zero_le _, Nat.zero_le _, fun _ => trivial⟩
  · simp only [CommandSound, h.command]
    exact ⟨Nat.zero_le _, fun hm => absurd hm notReleasing, fun _ _ => trivial⟩
  · rw [channelSound_iff]
    refine ⟨?_, h.bounded, fun hl => absurd h.latch hl⟩
    rw [Channel.Follows, h.off, Channel.mayDrive_iff, h.command]
    exact ⟨nofun, fun hd => absurd hd.1 (Nat.lt_irrefl 0)⟩

/-- A part whose tracker is stopped, whose table is empty and whose cams are at rest. -/
theorem Sound.of_rest {s : State} (hitems : s.items.Lawful) (hmode : ModeSound s)
    (htracker : s.tracker = ⟨.stopped, 0⟩) (hlength : s.table.length = 32)
    (htable : ∀ x ∈ s.table, x.generation < 8 ∧ x.record = none) (hcams : ∀ c, AtRest s c)
    (hline : ParkLineSound s) (hlink : LinkSound s) (hcounters : CountersSound s) : Sound s where
  items := hitems
  mode := hmode
  tracker := by rw [TrackerSound, htracker]; exact ⟨Nat.zero_le _, rfl⟩
  table := ⟨hlength, fun x hx => ⟨(htable x hx).1, fun _ => (htable x hx).2, fun r hr => by
    rw [(htable x hx).2] at hr; exact absurd hr (Option.not_mem_none r)⟩⟩
  outcomes := fun x hx r hr => by rw [(htable x hx).2] at hr; exact absurd hr (Option.not_mem_none r)
  cams := fun c => (hcams c).camSound hitems
  parkLine := hline
  link := hlink
  counters := hcounters

/-- In CONFIG every cam is at rest. -/
theorem Sound.atRest {s : State} (hs : Sound s) (hm : s.mode = .config) (c : Cam) : AtRest s c := by
  obtain ⟨geometry, -, valid, offset, config, -, dead⟩ := (hs.cams c).lane
  obtain ⟨enabled, causes, -, -, -, learn, samples, -, -, -, runs⟩ := (hs.cams c).sequencer
  have off : s.enabled c = false := by
    rw [← Bool.not_eq_true, enabled]
    rintro ⟨h, -⟩
    rw [hm] at h
    cases h
  have state := (s.enabled_eq_false c).1 off
  have held : ¬ (s.mode = .run ∧ (s.cfg c).enable = true) := fun h => by rw [hm] at h; cases h.1
  have hstopped : s.tracker.sync.isEngine = false := by rw [(hs.mode.1 hm).1]; rfl
  have command := (hs.cams c).command.2.2 (by rw [state]; nofun) (by rw [state]; nofun)
  obtain ⟨follows, bounded, latched⟩ := (channelSound_iff s c).1 (hs.cams c).channel
  constructor
  · rw [if_neg held, state]
  · exact causes.2 (by rw [state]; nofun)
  · exact Bool.eq_false_iff.2 fun h => by rw [state] at learn; exact absurd (learn h).1 nofun
  · exact samples
  · exact runs (by rw [state]; nofun)
  · rw [off] at geometry
    rw [if_neg held]
    exact List.map_eq_nil_iff.1 geometry
  · exact dead off
  · exact Bool.eq_false_iff.2 fun h => by rw [hstopped] at valid; exact absurd (valid h).1 nofun
  · exact offset
  · exact config
  · exact (hs.cams c).arbiter.2.2.2 off
  · exact (hs.cams c).loop.2.2 (by rw [state]; nofun)
  · exact command
  · by_contra h
    rw [latched h] at state
    cases state
  · cases ho : (s.cam c).channel.output with
    | off => rfl
    | driven =>
      have := (Channel.mayDrive_iff _ _).1 (follows.1 ho)
      omega
  · exact bounded

/-- A channel that is OFF is within its bounds at any PWM frequency (R140, R143). -/
theorem Channel.Bounded.of_off {h : Channel} {hz hz' : Nat} (hb : h.Bounded hz) (ho : h.output = .off)
    (hpos : 100 ≤ hz') : h.Bounded hz' :=
  ⟨hb.1, hb.2.1, by rw [(hb.1 ho).2.2.2.1]; exact openLoadPeriods_pos hpos⟩

/-! ### CONFIG_WRITE -/

theorem edgeCode_edgeOfCode {v : Nat} (h : v ≤ 1) : edgeCode (edgeOfCode v) = v := by
  match v, h with
  | 0, _ => rfl
  | 1, _ => rfl

theorem Direction.code_ofCode {v : Nat} (h : v ≤ 1) : (Direction.ofCode v).code = v := by
  match v, h with
  | 0, _ => rfl
  | 1, _ => rfl

theorem toNat_decide_ne_zero {v : Nat} (h : v ≤ 1) : (decide (v ≠ 0)).toNat = v := by
  match v, h with
  | 0, _ => rfl
  | 1, _ => rfl

theorem GlobalItems.read_write_self {g : GlobalItems} {v : Nat} {i : GlobalItem} (h : i.lawful v = true) :
    (g.write v i).read i = v := by
  cases i with
  | crankEdge => exact edgeCode_edgeOfCode ((inRange_iff _ _ _).1 h).2
  | counterWrap => exact toNat_decide_ne_zero ((inRange_iff _ _ _).1 h).2
  | referenceCam =>
    have h3 : v ≤ 3 := ((inRange_iff _ _ _).1 h).2
    match v, h3 with
    | 0, _ | 1, _ | 2, _ | 3, _ => rfl
  | _ => rfl

theorem GlobalItems.read_write_ne {g : GlobalItems} {v : Nat} {i j : GlobalItem} (h : j ≠ i) :
    (g.write v i).read j = g.read j := by
  cases i <;> cases j <;> first | rfl | exact absurd rfl h

theorem CamItems.read_write_self {k : CamItems} {v : Nat} {i : CamItem} (h : i.lawful v = true) :
    (k.write v i).read i = v := by
  cases i with
  | enable => exact toNat_decide_ne_zero ((inRange_iff _ _ _).1 h).2
  | direction => exact Direction.code_ofCode ((inRange_iff _ _ _).1 h).2
  | edge => exact edgeCode_edgeOfCode ((inRange_iff _ _ _).1 h).2
  | _ => rfl

theorem CamItems.read_write_ne {k : CamItems} {v : Nat} {i j : CamItem} (h : j ≠ i) :
    (k.write v i).read j = k.read j := by
  cases i <;> cases j <;> first | rfl | exact absurd rfl h

/-- An item reads back as it was written (R151, R152). -/
theorem Items.read_write_self {x : Items} {v : Nat} {i : ItemRef} (h : i.lawful v = true) :
    (x.write v i).read i = v := by
  cases i with
  | global i => exact GlobalItems.read_write_self h
  | ofCam i c =>
    simp only [Items.write, Items.read, PerCam.get_set_self]
    exact CamItems.read_write_self h

/-- A write changes no other item (R151). -/
theorem Items.read_write_ne {x : Items} {v : Nat} {i j : ItemRef} (h : j ≠ i) : (x.write v i).read j = x.read j := by
  cases i with
  | global i =>
    cases j with
    | global j => exact GlobalItems.read_write_ne fun he => h (by rw [he])
    | ofCam j c => rfl
  | ofCam i c =>
    cases j with
    | global j => rfl
    | ofCam j b =>
      simp only [Items.write, Items.read]
      by_cases hb : b = c
      · subst hb
        rw [PerCam.get_set_self]
        exact CamItems.read_write_ne fun he => h (by rw [he])
      · rw [PerCam.get_set_ne _ hb]

theorem Items.Lawful.write {x : Items} (hx : x.Lawful) {v : Nat} {i : ItemRef} (h : i.lawful v = true) :
    (x.write v i).Lawful := by
  intro j
  by_cases hj : j = i
  · subst hj
    rw [Items.read_write_self h]
    exact h
  · rw [Items.read_write_ne hj]
    exact hx j

/-- In CONFIG a cam at rest stays so whatever the items in force and the park line are. -/
theorem AtRest.of_config {s u : State} {c : Cam} (h : AtRest s c) (hs : s.mode = .config) (hu : u.mode = .config)
    (hcam : u.cam c = s.cam c) (hpwm : 100 ≤ u.items.global.pwmHz) : AtRest u c := by
  have held : ∀ {v : State}, v.mode = .config → ∀ p : Prop, ¬ (v.mode = .run ∧ p) :=
    fun hv p h => by rw [hv] at h; cases h.1
  have state := h.state
  have windows := h.windows
  rw [if_neg (held hs _)] at state windows
  constructor <;> rw [hcam]
  · rw [if_neg (held hu _), state]
  · exact h.causes
  · exact h.idle
  · exact h.samples
  · exact h.runs
  · rw [if_neg (held hu _), windows]
  · exact h.missRun
  · exact h.invalid
  · rw [h.learned hs]
    exact Nat.zero_le _
  · exact fun _ => h.learned hs
  · exact h.arbiter
  · exact h.loop
  · exact h.command
  · exact h.latch
  · exact h.off
  · exact h.bounded.of_off h.off hpwm

theorem Sound.configWrite {s : State} (hs : Sound s) (hm : s.mode = .config) {v : Nat} {i : ItemRef}
    (h : i.lawful v = true) : Sound { s with items := s.items.write v i } := by
  have lawful := hs.items.write h
  refine Sound.of_rest lawful ⟨hs.mode.1, fun hr => ?_, hs.mode.2.2⟩ (hs.mode.1 hm).1 hs.table.1
    (fun x hx => ⟨(hs.table.2 x hx).1, (hs.table.2 x hx).2.1 hm⟩)
    (fun c => (hs.atRest hm c).of_config hm hm rfl lawful.pwmHz.1) hs.parkLine hs.link hs.counters
  rw [hm] at hr
  cases hr

theorem ReplyFits.configWrite {s : State} (hs : Sound s) (hm : s.mode = .config) (p : List Byte) :
    ReplyFits s (ownConfigWrite s p) := by
  unfold ownConfigWrite
  split
  · split
    · split
      next h => exact ⟨hs.configWrite hm h, rfl, Nat.zero_le _⟩
      next => exact .refuse hs _
    · exact .refuse hs _
  · exact .refuse hs _

theorem ReplyFits.configRead {s : State} (hs : Sound s) (p : List Byte) : ReplyFits s (ownConfigRead s p) := by
  unfold ownConfigRead
  split
  · split
    · exact ⟨hs, rfl, by rw [grant, be16_length]; omega⟩
    · exact .refuse hs _
  · exact .refuse hs _

/-! ### COMMIT -/

theorem State.commit_cam (s : State) (t : Nat) (c : Cam) :
    (s.commit t).cam c = (s.cam c).commit (s.cfg c) s.parkLine :=
  State.eachCam_cam (f := fun c v => v.setCam c ((v.cam c).commit (v.cfg c) v.parkLine))
    (g := fun c k => k.commit (s.cfg c) s.parkLine) (fun c u => u.setCam_localTo c _)
    (fun c u hu => by rw [State.setCam_cam_self, hu.cfg, hu.parkLine]) c

/-- What COMMIT changes beside the cams (R156). -/
theorem State.commit_eq (s : State) (t : Nat) :
    s.commit t = { s with
      cams := (s.commit t).cams, mode := .run, tracker := ⟨.stopped, 0⟩, timebase := some ⟨t, 0⟩
      link := { s.link with timer := some t } } := rfl

theorem Sound.commit {s : State} (hs : Sound s) (hm : s.mode = .config) (hready : s.link.ready = true)
    (hv : s.items.validate = none) (t : Nat) : Sound (s.commit t) := by
  have hcam := s.commit_cam t
  have heq := s.commit_eq t
  generalize s.commit t = u at hcam heq ⊢
  have hitems : u.items = s.items := by rw [heq]
  have hmode : u.mode = .run := by rw [heq]
  refine Sound.of_rest (by rw [hitems]; exact hs.items) ?_ (by rw [heq]) (by rw [heq]; exact hs.table.1)
    (fun x hx => ?_) (fun c => ?_) (by rw [heq]; exact hs.parkLine) (by rw [heq]; exact hs.link)
    (by rw [heq]; exact hs.counters)
  · rw [heq]
    have high : s.rstn = .high := (hs.link.2.2.2.2.1 hready).2.2
    exact ⟨nofun, fun _ => ⟨rfl, rfl, hready, hv⟩, fun hl =>
      absurd (high.symm.trans (show s.rstn = .low from hl)) nofun⟩
  · rw [heq] at hx
    exact ⟨(hs.table.2 x hx).1, (hs.table.2 x hx).2.1 hm⟩
  · have rest := hs.atRest hm c
    have hcfg : u.cfg c = s.cfg c := congrArg (fun x => x.cam.get c) hitems
    have hline : u.parkLine = s.parkLine := by rw [heq]
    have hon : (u.mode = .run ∧ (u.cfg c).enable = true) ↔ (s.cfg c).enable = true := by simp [hmode, hcfg]
    constructor <;> rw [hcam c]
    · simp only [hon, hline]; rfl
    · rfl
    · rfl
    · exact rest.samples
    · exact ⟨rfl, rfl, rfl, rfl⟩
    · simp only [hmode, hcfg, true_and]; rfl
    · rfl
    · rfl
    · rw [hitems]; exact rest.offset
    · exact fun _ => rest.learned hm
    · rfl
    · exact rest.loop
    · exact rest.command
    · exact rest.latch
    · exact rest.off
    · rw [hitems]; exact rest.bounded

/-- A part with a request in hand is ready and not held in reset. -/
theorem Sound.ready_of_delivers {s : State} (hs : Sound s) {r : Request} {p : List Byte} (hd : s.delivers r p) :
    s.link.ready = true := by
  obtain ⟨-, one, notBoth, ready, -⟩ := hs.link
  have some : s.link.delivered.isSome = true := by rw [show s.link.delivered = _ from hd]; rfl
  exact ready (one.2 (by rw [notBoth some, some]; rfl))

theorem ReplyFits.commit {s : State} (hs : Sound s) (hm : s.mode = .config) (hready : s.link.ready = true) (t : Nat)
    (p : List Byte) : ReplyFits s (ownCommit t s p) := by
  unfold ownCommit
  split
  · split
    next hv => exact ⟨hs.commit hm hready hv t, by rw [grant, State.commit_eq], Nat.zero_le _⟩
    next => exact ⟨hs, rfl, show 2 ≤ 40 by omega⟩
  · exact .refuse hs _

/-! ### REOPEN -/

/-- A cam's blocks after a REOPEN (R158). -/
def CamState.reopened (k : CamState) (line : ParkLine) : CamState :=
  { lane := { k.lane with windows := [], missRun := 0, offset := 0 }
    arbiter := .reset
    phaser := { k.phaser.aborted with
      state := .disabled, causes := .empty, releaseCount := 0, parkRun := 0, errorRun := 0, eventSeen := false
      allOver := true }
    loop := ⟨0, 0⟩
    channel := (k.channel.write line 0).rearm line }

/-- A cam disabled by a REOPEN changes its blocks, and the notices where it aborts a learn. -/
theorem State.disableCam_eq (s : State) (c : Cam) :
    s.disableCam c = { s with
      cams := s.cams.set c ((s.cam c).reopened s.parkLine), notices := s.abortNotices c } := by
  unfold State.disableCam
  rw [State.abortLearn_standDown]
  simp [State.setCauses, State.setCam, State.cam, CamState.reopened]

theorem State.disableCam_localTo (s : State) (c : Cam) : LocalTo c s (s.disableCam c) :=
  localTo_of_eq (t := s.table) (n := s.counters) (s.disableCam_eq c)

theorem State.reopen_cam (s : State) (c : Cam) : s.reopen.cam c = (s.cam c).reopened s.parkLine :=
  State.eachCam_cam (s := { s with table := purge s.table }) (f := fun c v => v.disableCam c)
    (g := fun _ k => k.reopened s.parkLine) (fun c u => u.disableCam_localTo c)
    (fun c u hu => by rw [State.disableCam_eq, hu.parkLine]; exact PerCam.get_set_self _ _ _) c

/-- The cams' part of a REOPEN changes the cams and the notices alone. -/
theorem State.eachCam_disableCam (s : State) :
    s.eachCam (fun c v => v.disableCam c) =
      { s with
        cams := (s.eachCam (fun c v => v.disableCam c)).cams
        notices := (s.eachCam (fun c v => v.disableCam c)).notices } :=
  State.eachCam_keeps (P := fun u => u = { s with cams := u.cams, notices := u.notices })
    (fun c u hu => by rw [State.disableCam_eq, hu]) rfl

/-- What REOPEN changes beside the cams (R158). -/
theorem State.reopen_eq (s : State) :
    s.reopen = { s with
      cams := s.reopen.cams, notices := s.reopen.notices, table := purge s.table, mode := .config
      tracker := ⟨.stopped, 0⟩, timebase := none, link := { s.link with timer := none } } := by
  unfold State.reopen
  dsimp only
  rw [State.eachCam_disableCam]

theorem Sound.reopen {s : State} (hs : Sound s) (hstopped : s.tracker.sync = .stopped) : Sound s.reopen := by
  have hcam := s.reopen_cam
  have heq := s.reopen_eq
  generalize s.reopen = u at hcam heq ⊢
  have hmode : u.mode = .config := by rw [heq]
  have hitems : u.items = s.items := by rw [heq]
  refine Sound.of_rest (by rw [heq]; exact hs.items) ?_ (by rw [heq]) ?_ (fun x hx => ?_) (fun c => ?_)
    (by rw [heq]; exact hs.parkLine) (by rw [heq]; exact hs.link) (by rw [heq]; exact hs.counters)
  · rw [heq]
    exact ⟨fun _ => ⟨rfl, rfl, rfl⟩, nofun, fun _ => rfl⟩
  · rw [heq]
    exact (List.length_map _).trans hs.table.1
  · rw [heq] at hx
    obtain ⟨z, hz, rfl⟩ := List.mem_map.1 hx
    refine ⟨(hs.slot hz).retire.1, ?_⟩
    unfold Slot.retire
    split
    next => rfl
    next h => exact h
  · obtain ⟨-, -, valid, -⟩ := (hs.cams c).lane
    obtain ⟨-, -, -, -, -, -, samples, -⟩ := (hs.cams c).sequencer
    obtain ⟨follows, bounded, -⟩ := (channelSound_iff s c).1 (hs.cams c).channel
    have still : ∀ p : Prop, ¬ (u.mode = .run ∧ p) := fun p h => by rw [hmode] at h; cases h.1
    have quiet := Channel.rearm_of_quiet ((s.cam c).channel.write_command s.parkLine 0) (follows.write 0)
      (bounded.write s.parkLine 0)
    have off : ((s.cam c).channel.write s.parkLine 0).output = .off := by
      cases ho : ((s.cam c).channel.write s.parkLine 0).output with
      | off => rfl
      | driven =>
        have := (Channel.mayDrive_iff _ _).1 ((follows.write 0).1 ho)
        rw [Channel.write_command] at this
        omega
    constructor <;> rw [hcam c] <;> dsimp only [CamState.reopened]
    · rw [if_neg (still _)]
    · rfl
    · exact samples
    · exact ⟨rfl, rfl, rfl, rfl⟩
    · rw [if_neg (still _)]
    · exact Bool.eq_false_iff.2 fun h => by
        rw [hstopped] at valid
        exact absurd (valid h).1 nofun
    · exact Nat.zero_le _
    · exact fun _ => rfl
    · rfl
    · rw [quiet]; exact Channel.write_command _ _ _
    · rw [quiet]
    · rw [quiet]; exact off
    · rw [quiet, hitems]; exact bounded.write s.parkLine 0

theorem ReplyFits.reopen {s : State} (hs : Sound s) (p : List Byte) : ReplyFits s (ownReopen s p) := by
  unfold ownReopen
  split
  · split
    next h => exact ⟨hs.reopen h, by rw [grant, State.reopen_eq], Nat.zero_le _⟩
    next => exact .refuse hs _
  · exact .refuse hs _

/-! ### Resets -/

theorem Items.reset_lawful : Items.reset.Lawful := by
  rintro (i | ⟨i, c⟩)
  · cases i <;> rfl
  · cases c <;> cases i <;> rfl

/-- A reset leaves a sound part, whatever stood before it; its end, if it has ended, with RSTN high (R171). -/
theorem sound_resetBlocks (s : State) (cause : ResetCause) {ended : Option Nat}
    (hend : ended.isSome = true → s.rstn = .high) : Sound (s.resetBlocks cause ended) := by
  refine Sound.of_rest Items.reset_lawful ⟨fun _ => ⟨rfl, rfl, rfl⟩, nofun, fun _ => rfl⟩ rfl (List.length_replicate ..)
    (fun x hx => ?_) (fun c => ?_) ?_ ?_ ?_
  · obtain ⟨-, rfl⟩ := List.mem_replicate.1 hx
    exact ⟨Nat.zero_lt_succ _, rfl⟩
  · have hcam : (s.resetBlocks cause ended).cam c = .reset := PerCam.get_const _ _
    constructor <;> rw [hcam]
    · rfl
    · rfl
    · rfl
    · exact Nat.zero_le _
    · exact ⟨rfl, rfl, rfl, rfl⟩
    · rfl
    · rfl
    · rfl
    · exact Nat.zero_le _
    · exact fun _ => rfl
    · rfl
    · rfl
    · rfl
    · rfl
    · rfl
    · exact ⟨fun _ => ⟨rfl, rfl, rfl, rfl, rfl, rfl⟩, Nat.zero_le _, openLoadPeriods_pos Items.reset_lawful.pwmHz.1⟩
  · unfold ParkLineSound
    cases hr : s.rstn <;> cases hp : s.parkn <;> simp [State.resetBlocks, hr, hp, lineOf, State.reset]
  · refine ⟨?_, ?_, nofun, nofun, nofun, fun h => ⟨rfl, hend h⟩, fun _ => ?_, Nat.succ_le_succ (Nat.zero_le _), trivial,
      trivial, Nat.zero_le _⟩
    · exact ⟨nofun, nofun⟩
    · exact ⟨nofun, nofun⟩
    · change s.link.transaction.cut = .idle ∨ s.link.transaction.cut = .ignored
      cases s.link.transaction
      · exact .inl rfl
      all_goals exact .inr rfl
  · refine ⟨fun k => ?_, Nat.zero_lt_succ _⟩
    change Counters.reset.get k ≤ 65535
    cases k with
    | ofCam c i =>
      rw [Counters.get, Counters.reset, PerCam.get_const]
      cases i <;> exact Nat.zero_le _
    | _ => exact Nat.zero_le _

/-- Settles O2: the power-on state is what a reset makes of itself. -/
theorem resetIsSound : Obligations.ResetIsSound :=
  show Sound (State.reset.resetBlocks .powerOn (some 0)) from sound_resetBlocks _ _ fun _ => rfl

end Sys2Proof.Machine

/-! ## The link, the valve channels and the park line keep soundness; every step does -/

namespace Sys2Proof.Machine

/-! ### The link (09) -/

section LinkEvents

variable {s : State} (hs : Sound s)
include hs

theorem Sound.rstnRise (hlow : s.rstn = .low) (t : Nat) :
    Sound { s with
      rstn := .high, parkLine := lineOf s.parkn, qualification := none
      link := { s.link with readyFrom := some t } } := by
  have hm := hs.mode.2.2 hlow
  obtain ⟨busy, one, notBoth, ready, formed, -, early, rest⟩ := hs.link
  have cold : s.link.ready = false := Bool.eq_false_iff.2 fun h => by
    rw [(formed h).2.2] at hlow
    cases hlow
  refine Sound.of_rest hs.items ⟨hs.mode.1, hs.mode.2.1, nofun⟩ (hs.mode.1 hm).1 hs.table.1
    (fun x hx => ⟨(hs.table.2 x hx).1, (hs.table.2 x hx).2.1 hm⟩)
    (fun c => (hs.atRest hm c).of_config hm hm rfl hs.items.pwmHz.1) ?_
    ⟨busy, one, notBoth, ready, fun h => absurd (cold.symm.trans h) nofun, fun _ => ⟨cold, rfl⟩, early, rest⟩
    hs.counters
  unfold ParkLineSound
  cases hp : s.parkn <;> simp [lineOf]

theorem Sound.readyDelay {summary : Byte} (hfrom : s.link.readyFrom.isSome = true) :
    Sound { s with link := { s.link with
      ready := true, readyFrom := none, response := { s.link.response with summary := some summary } } } := by
  obtain ⟨busy, one, notBoth, -, -, waiting, -, rest⟩ := hs.link
  refine hs.with_link ⟨busy, one, notBoth, fun _ => rfl, fun _ => ⟨rfl, rfl, (waiting hfrom).2⟩, nofun, nofun, rest⟩
    (fun h => (hs.mode.1 h).2.2) fun h => ⟨(hs.mode.2.1 h).2.1, rfl⟩

theorem Sound.csnFall {kind : Transaction} (hcold : s.link.ready = false → kind = .idle ∨ kind = .ignored) :
    Sound { s with link := { s.link with transaction := kind, received := [], clockedOut := [] } } := by
  obtain ⟨busy, one, notBoth, ready, formed, waiting, -, short, answer, delivered, -⟩ := hs.link
  exact hs.with_link_same ⟨busy, one, notBoth, ready, formed, waiting, hcold, short, answer, delivered,
    Nat.zero_le _⟩ rfl rfl

/-- A transaction that ends without processing. -/
theorem Sound.endQuietly {received clocked : List Byte} (hlength : received.length ≤ 43) :
    Sound { s with link := { s.link with transaction := .idle, received := received, clockedOut := clocked } } := by
  obtain ⟨busy, one, notBoth, ready, formed, waiting, -, short, answer, delivered, -⟩ := hs.link
  exact hs.with_link_same ⟨busy, one, notBoth, ready, formed, waiting, fun _ => .inl rfl, short, answer, delivered,
    hlength⟩ rfl rfl

omit hs in
/-- A delivered payload fits a frame (R163). -/
theorem judgeFrame_short {bytes p : List Byte} {r : Request} (h : judgeFrame bytes = .delivered r p) :
    p.length ≤ 40 := by
  unfold judgeFrame at h
  split at h
  next cmd len rest =>
    split at h
    · cases h
    · split at h
      · cases h
      · dsimp only at h
        split at h
        · cases h
        · split at h
          · cases h
          · cases h
            exact (List.length_take_le _ _).trans (by omega)
  next => cases h

/-- The link after the end of an open transaction, before its frame is counted (R163, R166). -/
theorem Sound.dispose (hopen : s.link.transaction = .opened) {bytes clocked : List Byte} {delivery : Delivery}
    {t : Nat} {v : Verdict} (hv : ∀ r p, v = .delivered r p → p.length ≤ 40) :
    Sound { s with link := ({ s.link with
      transaction := .idle, received := bytes.take 43, clockedOut := clocked, delivery := delivery, busy := true
      riseAt := some t } : Link).dispose v } := by
  obtain ⟨-, -, -, -, formed, waiting, early, short, -, -, -⟩ := hs.link
  have hready : s.link.ready = true := by
    by_contra h
    have := early (Bool.eq_false_iff.2 h)
    rw [hopen] at this
    exact this.elim nofun nofun
  have buffer : (bytes.take 43).length ≤ 43 := List.length_take_le _ _
  cases v with
  | answered echo result counter taken =>
    exact hs.with_link_same ⟨⟨fun _ => rfl, fun _ => rfl⟩, ⟨fun _ => rfl, fun _ => rfl⟩, nofun, fun _ => hready, formed,
      waiting, fun _ => .inl rfl, short, Nat.zero_le _, trivial, buffer⟩ rfl rfl
  | delivered r p =>
    exact hs.with_link_same ⟨⟨fun _ => rfl, fun _ => rfl⟩, ⟨fun _ => rfl, fun _ => rfl⟩, fun _ => rfl, fun _ => hready,
      formed, waiting, fun _ => .inl rfl, short, trivial, hv r p rfl, buffer⟩ rfl rfl

theorem Sound.countVerdict (v : Verdict) : Sound (s.countVerdict v) := by
  unfold State.countVerdict
  split
  · exact hs.count _
  · exact hs
  · exact hs

theorem Sound.restartTimer (v : Verdict) (t : Nat) : Sound (s.restartTimer v t) := by
  unfold State.restartTimer
  split
  next h =>
    exact hs.with_link hs.link (fun hc => absurd (h.2.symm.trans hc) nofun)
      fun hm => ⟨rfl, (hs.mode.2.1 hm).2.2.1⟩
  next => exact hs

theorem Sound.endOpened (hopen : s.link.transaction = .opened) (bytes : List Byte) (t : Nat) :
    Sound (s.endOpened bytes t) :=
  ((hs.dispose hopen fun _ _ h => judgeFrame_short h).countVerdict _).restartTimer _ _

theorem Sound.formResponse {echo : Byte} {result : Result} {payload : List Byte} {summary : Byte}
    (hanswer : s.link.answer = some (.response echo result payload)) :
    Sound { s with link := { s.link with
      response := ⟨echo, result, some summary, payload⟩, delivery := .waiting, busy := false, riseAt := none
      answer := none } } := by
  obtain ⟨-, -, notBoth, -, formed, waiting, early, -, answer, delivered, buffer⟩ := hs.link
  have free : s.link.delivered.isSome = false := Bool.eq_false_iff.2 fun h => by
    rw [notBoth h] at hanswer
    cases hanswer
  rw [hanswer] at answer
  refine hs.with_link_same ⟨⟨nofun, nofun⟩, ?_, fun h => ?_, nofun, fun h => ⟨rfl, (formed h).2⟩, waiting, early, answer,
    trivial, delivered, buffer⟩ rfl rfl
  · change false = true ↔ (s.link.delivered.isSome != false) = true
    rw [free]
    exact ⟨nofun, nofun⟩
  · exact absurd (free.symm.trans h) nofun

theorem Sound.linkLoss (htimer : s.link.timer.isSome = true) (t : Nat) :
    Sound { s with table := purge s.table, link := { s.link with timer := some t } } := by
  refine (hs.map_table (f := Slot.retire) fun _ h => h.retire).with_link (l := { s.link with timer := some t })
    hs.link (fun h => ?_) fun h => ⟨rfl, (hs.mode.2.1 h).2.2.1⟩
  rw [(hs.mode.1 h).2.2] at htimer
  cases htimer

end LinkEvents

/-! ### The valve channels (07) -/

/-- A driver fault latched in a channel just replaced (R143). -/
theorem State.setChannel_driverFault (s : State) (c : Cam) (h : Channel) (fault : Latch) (cause : Cause) :
    (s.setChannel c h).driverFault c fault cause =
      (s.setChannel c (h.latchFault s.parkLine fault)).reportFault c cause := by
  unfold State.driverFault
  rw [State.setChannel_cam_self, State.setChannel_parkLine]
  simp [State.setChannel]

section Valves

variable {s : State} (hs : Sound s)
include hs

/-- A channel in place of a sound cam's own that keeps the latch. -/
theorem Sound.setChannel {c : Cam} {h : Channel} (hh : ChannelFits s c h)
    (hlatch : h.latch = (s.cam c).channel.latch) : Sound (s.setChannel c h) := by
  refine hs.setCam ⟨?_, ?_, ?_, ?_, ?_, ?_⟩ Iff.rfl id
  · exact (hs.cams c).lane.set rfl Iff.rfl
  · exact (hs.cams c).arbiter.set rfl id id
  · exact (hs.cams c).sequencer.set rfl
  · exact (hs.cams c).loop.set rfl id
  · exact (hs.cams c).command.set hh.command rfl
  · rw [channelSound_iff, State.setCam_cam_self]
    refine ⟨hh.follows, hh.bounded, fun hl => ?_⟩
    dsimp only at hl ⊢
    rw [hlatch] at hl
    exact ((channelSound_iff s c).1 (hs.cams c).channel).2.2 hl

/-- A channel that is DRIVEN holds a command, and so its cam is enabled (R93, R136). -/
theorem Sound.enabled_of_driven {c : Cam} (h : (s.cam c).channel.output = .driven) : s.enabled c = true := by
  obtain ⟨follows, -, -⟩ := (channelSound_iff s c).1 (hs.cams c).channel
  have positive := ((Channel.mayDrive_iff _ _).1 (follows.1 h)).1
  rw [State.enabled_iff]
  intro hd
  have := (hs.cams c).command.2.2 (by rw [hd]; nofun) (by rw [hd]; nofun)
  omega

theorem Sound.driven_of_closed {c : Cam} (h : (s.cam c).channel.switchClosed = true) :
    (s.cam c).channel.output = .driven := by
  obtain ⟨-, ⟨quiet, -, -⟩, -⟩ := (channelSound_iff s c).1 (hs.cams c).channel
  cases ho : (s.cam c).channel.output with
  | driven => rfl
  | off =>
    rw [(quiet ho).1] at h
    cases h

theorem Sound.overcurrent {c : Cam} (h : (s.cam c).channel.switchClosed = true) :
    Sound (s.driverFault c .overcurrent .overcurrent) := by
  obtain ⟨-, bounded, -⟩ := (channelSound_iff s c).1 (hs.cams c).channel
  exact hs.setChannel_reportFault (h := (s.cam c).channel.latchFault s.parkLine .overcurrent)
    (hs.enabled_of_driven (hs.driven_of_closed h))
    ⟨Channel.follow_follows _ _, bounded.latchFault _ _, Channel.follow_command _ _⟩ _

omit hs in
theorem Channel.judge_eq (h : Channel) (sensed : Nat) :
    h.judge sensed = { h with
      mean := .measured (min sensed 3000)
      limited := if h.wholePeriod = true then h.judgeLimited (min sensed 3000) else h.limited
      openLoadRun := if h.wholePeriod = true then h.judgeOpenLoad (min sensed 3000) else h.openLoadRun } := by
  unfold Channel.judge
  dsimp only
  split <;> rfl

omit hs in
theorem Channel.nextDuty_le {h : Channel} (hd : h.duty ≤ 1000) (mean choice : Nat) : h.nextDuty mean choice ≤ 1000 := by
  unfold Channel.nextDuty
  split
  · exact le_rfl
  · split
    · split
      next hlt =>
        have := Nat.mod_lt choice (show 0 < 1000 - h.duty by omega)
        omega
      next => exact le_rfl
    · split
      · split
        next => exact Nat.zero_le _
        next h0 =>
          have := Nat.mod_lt choice (Nat.pos_of_ne_zero h0)
          omega
      · have := Nat.mod_lt choice (show 0 < 1001 by omega)
        omega

/-- The start of a period keeps soundness (R137, R138). -/
theorem Sound.beginPeriod (c : Cam) (mean choice : Nat) :
    Sound (s.setChannel c ((s.cam c).channel.beginPeriod mean choice)) := by
  obtain ⟨follows, ⟨quiet, duty, run⟩, -⟩ := (channelSound_iff s c).1 (hs.cams c).channel
  unfold Channel.beginPeriod
  cases ho : (s.cam c).channel.output with
  | off =>
    obtain ⟨h1, h2, h3, h4, -, h6⟩ := quiet ho
    refine hs.setChannel ⟨?_, ⟨fun _ => ⟨h1, h2, h3, h4, rfl, h6⟩, duty, run⟩, rfl⟩ rfl
    exact (Iff.of_eq (by rw [ho])).trans follows
  | driven =>
    refine hs.setChannel ⟨?_, ⟨fun h => ?_, Channel.nextDuty_le duty _ _, run⟩, rfl⟩ rfl
    · exact (Iff.of_eq (by rw [ho])).trans follows
    · exact absurd (show Output.driven = .off from h) nofun

/-- A period's judgement and the fault it may bring keep soundness (R139, R142, R143). -/
theorem Sound.judged (c : Cam) (sensed : Nat) :
    Sound (if ((s.cam c).channel.judge sensed).qualifiesOpenLoad s.items.global.pwmHz then
      (s.setChannel c ((s.cam c).channel.judge sensed)).driverFault c .openLoad .openLoad
      else s.setChannel c ((s.cam c).channel.judge sensed)) := by
  obtain ⟨follows, ⟨quiet, duty, run⟩, -⟩ := (channelSound_iff s c).1 (hs.cams c).channel
  by_cases hq : ((s.cam c).channel.judge sensed).qualifiesOpenLoad s.items.global.pwmHz = true
  · rw [if_pos hq]
    rw [Channel.judge_eq] at hq ⊢
    simp only [Channel.qualifiesOpenLoad, Bool.and_eq_true] at hq
    have driven : (s.cam c).channel.output = .driven := by
      cases ho : (s.cam c).channel.output with
      | driven => rfl
      | off =>
        rw [(quiet ho).2.2.2.2.1] at hq
        cases hq.1
    rw [State.setChannel_driverFault]
    refine hs.setChannel_reportFault (hs.enabled_of_driven driven) ⟨?_, ?_, ?_⟩ _
    · exact Channel.follow_follows _ _
    · rw [Channel.latchFault_of_driven (fault := .openLoad) (by exact driven) s.parkLine nofun]
      exact ⟨fun _ => ⟨rfl, rfl, rfl, rfl, rfl, rfl⟩, Nat.zero_le _, Nat.zero_lt_of_lt run⟩
    · exact Channel.follow_command _ _
  · rw [if_neg hq]
    rw [Channel.judge_eq] at hq ⊢
    simp only [Channel.qualifiesOpenLoad, Bool.and_eq_true, decide_eq_true_eq, not_and, not_le] at hq
    refine hs.setChannel ⟨follows, ⟨fun ho => ?_, duty, ?_⟩, rfl⟩ rfl
    · obtain ⟨h1, h2, h3, h4, h5, h6⟩ := quiet ho
      exact ⟨h1, h2, by rw [h5]; exact h3, by rw [h5]; exact h4, h5, h6⟩
    · cases hw : (s.cam c).channel.wholePeriod with
      | true =>
        rw [hw] at hq
        exact hq rfl
      | false => exact run

theorem Sound.endPeriod (c : Cam) (sensed choice : Nat) : Sound (s.endPeriod c sensed choice) :=
  (hs.judged c sensed).beginPeriod c _ _

theorem Sound.with_timebase (hm : s.mode = .run) (b : Timebase) : Sound { s with timebase := some b } where
  items := hs.items
  mode := ⟨fun h => absurd (hm.symm.trans h) nofun, fun h => ⟨rfl, (hs.mode.2.1 h).2⟩, hs.mode.2.2⟩
  tracker := hs.tracker
  table := hs.table
  outcomes := hs.outcomes
  cams := fun c => (hs.cams c).congr (s := s) rfl rfl id rfl rfl rfl
  parkLine := hs.parkLine
  link := hs.link
  counters := hs.counters

theorem Sound.dutyElapsed {c : Cam} (hdriven : (s.cam c).channel.output = .driven) :
    Sound (s.setChannel c { (s.cam c).channel with switchClosed := false }) := by
  obtain ⟨follows, ⟨quiet, duty, run⟩, -⟩ := (channelSound_iff s c).1 (hs.cams c).channel
  exact hs.setChannel ⟨follows, ⟨fun ho => absurd (hdriven.symm.trans ho) nofun, duty, run⟩, rfl⟩ rfl

end Valves

theorem State.endPeriod_localTo (s : State) (c : Cam) (sensed choice : Nat) :
    LocalTo c s (s.endPeriod c sensed choice) := by
  unfold State.endPeriod
  dsimp only
  split
  · exact ((s.setCam_localTo c _).trans ((State.setCam_localTo _ c _).trans (State.reportFault_localTo _ c _))).trans
      (State.setCam_localTo _ c _)
  · exact (s.setCam_localTo c _).trans (State.setCam_localTo _ c _)

theorem Sound.periodEnd {s : State} (hs : Sound s) {b : Timebase} (hb : s.timebase = some b) (means : PerCam Nat) :
    Sound (s.periodEnd b means) := by
  have hm : s.mode = .run := by
    cases hm : s.mode with
    | run => rfl
    | config => rw [(hs.mode.1 hm).2.1] at hb; cases hb
  have move : CamsMove s (s.eachCam (fun c v => v.endPeriod c (means.get c) (Config.dutyChoice s.fresh c))) :=
    CamsMove.eachCam fun c u => (u.endPeriod_localTo c _ _).camsMove
  have sound := State.eachCam_keeps (f := fun c v => v.endPeriod c (means.get c) (Config.dutyChoice s.fresh c))
    (P := Sound) (fun c u hu => hu.endPeriod c _ _) hs
  exact sound.draw.with_timebase (move.mode.trans hm) _

end Sys2Proof.Machine

/-! ## The park line keeps soundness (R106, R107, R145, R146) -/

namespace Sys2Proof.Machine

/-! ### The outputs follow the line -/

theorem State.followPark_localTo (c : Cam) (s : State) :
    LocalTo c s (s.setCam c { s.cam c with channel := (s.cam c).channel.follow s.parkLine }) :=
  s.setCam_localTo c _

/-- The outputs that follow the line change the cams alone. -/
theorem State.followPark_eq (s : State) : s.followPark = { s with cams := s.followPark.cams } :=
  State.eachCam_keeps (P := fun u => u = { s with cams := u.cams }) (fun c u hu => by rw [hu]; rfl) rfl

theorem State.followPark_cam (s : State) (c : Cam) :
    s.followPark.cam c = { s.cam c with channel := (s.cam c).channel.follow s.parkLine } :=
  State.eachCam_cam (f := fun c u => u.setCam c { u.cam c with channel := (u.cam c).channel.follow u.parkLine })
    (g := fun _ k => { k with channel := k.channel.follow s.parkLine }) (fun c u => u.followPark_localTo c)
    (fun c u hu => by rw [State.setCam_cam_self, hu.parkLine]) c

theorem State.cams_ext {s u : State} (h : ∀ c, u.cam c = s.cam c) : u.cams = s.cams := PerCam.ext_get h

/-- In a sound state every output follows the line already. -/
theorem Sound.followPark_eq {s : State} (hs : Sound s) : s.followPark = s := by
  have same : s.followPark.cams = s.cams := State.cams_ext fun c => by
    obtain ⟨follows, -, -⟩ := (channelSound_iff s c).1 (hs.cams c).channel
    rw [State.followPark_cam, follows.follow_eq]
  rw [State.followPark_eq, same]

/-! ### The line changes -/

/-- A cam once the line has changed at its channel, and the sequencer has taken a release (R107, R136). -/
def CamState.relined (k : CamState) (line : ParkLine) : CamState :=
  { k with
    phaser := { k.phaser with
      state := if k.phaser.state = .forced ∧ line = .released then .parked else k.phaser.state }
    channel := k.channel.follow line }

theorem CamState.relined_state_iff (k : CamState) (line : ParkLine) {st : PhaserState} (h1 : st ≠ .forced)
    (h2 : st ≠ .parked) : (k.relined line).phaser.state = st ↔ k.phaser.state = st := by
  unfold CamState.relined
  dsimp only
  split
  next h =>
    rw [h.1]
    exact ⟨fun h => absurd h.symm h2, fun h => absurd h.symm h1⟩
  next => exact Iff.rfl

/-- A change of the line keeps a cam sound: an asserted line has every sequencer told of it. -/
theorem CamSound.relined {s u : State} {c : Cam} (h : CamSound s c) (hmode : u.mode = s.mode)
    (hitems : u.items = s.items) (htracker : u.tracker = s.tracker) {line : ParkLine} (hline : u.parkLine = line)
    (htold : line = .asserted → u.told.get c = true) (hcam : u.cam c = (s.cam c).relined line) : CamSound u c := by
  have hcfg : u.cfg c = s.cfg c := congrArg (fun x => x.cam.get c) hitems
  have hdisabled := (s.cam c).relined_state_iff line (st := .disabled) nofun nofun
  have hfault := (s.cam c).relined_state_iff line (st := .fault) nofun nofun
  have hreleasing := (s.cam c).relined_state_iff line (st := .releasing) nofun nofun
  have htracking := (s.cam c).relined_state_iff line (st := .tracking) nofun nofun
  have henabled : u.enabled c = s.enabled c := by
    rw [State.enabled, State.enabled, hcam]
    exact decide_eq_decide.2 (not_congr hdisabled)
  constructor
  · simp only [LaneSound, henabled, hcfg, hmode, hitems, htracker, hcam]
    exact h.lane
  · obtain ⟨target, suppressed, cleared, dead⟩ := h.arbiter
    simp only [ArbiterSound, henabled, hcfg, htracker, hcam]
    exact ⟨target, suppressed, fun hf => cleared (hf.imp_left hfault.1), dead⟩
  · obtain ⟨enabled, causes, forced, service, moving, learn, samples, park, error, count, runs⟩ := h.sequencer
    simp only [SequencerSound, henabled, hcfg, hmode, htracker, hline, hcam]
    refine ⟨enabled, causes.trans (not_congr hfault).symm, fun hf => ?_, fun _ => ?_,
      fun hm => moving (hm.imp hreleasing.1 htracking.1), fun hl => ⟨?_, (learn hl).2⟩, samples, park, error,
      fun hr => count (hreleasing.1 hr), fun ht => runs fun h => ht (htracking.2 h)⟩
    · cases line with
      | asserted => rfl
      | released =>
        unfold CamState.relined at hf
        dsimp only at hf
        split at hf
        next => cases hf
        next h => exact absurd ⟨hf, rfl⟩ h
    · cases line with
      | released => exact .inl rfl
      | asserted => exact .inr (htold rfl)
    · have parked := (learn hl).1
      unfold CamState.relined
      dsimp only
      rw [if_neg fun h => (by rw [parked] at h; cases h.1), parked]
  · obtain ⟨ramped, integrator, still⟩ := h.loop
    simp only [LoopSound, hcfg, hcam]
    exact ⟨ramped, integrator, fun ht => still fun h => ht (htracking.2 h)⟩
  · obtain ⟨max, release, none⟩ := h.command
    simp only [CommandSound, hcfg, hcam]
    rw [show ((s.cam c).relined line).channel.command = (s.cam c).channel.command from Channel.follow_command _ _]
    exact ⟨max, fun hr => release (hreleasing.1 hr),
      fun hr ht => none (fun h => hr (hreleasing.2 h)) fun h => ht (htracking.2 h)⟩
  · obtain ⟨-, bounded, latched⟩ := (channelSound_iff s c).1 h.channel
    rw [channelSound_iff, hcam, hline, hitems]
    refine ⟨Channel.follow_follows _ _, bounded.follow _, fun hl => hfault.2 (latched ?_)⟩
    rwa [show ((s.cam c).relined line).channel.latch = (s.cam c).channel.latch from Channel.follow_latch _ _] at hl

/-- A change of the line keeps soundness. -/
theorem Sound.relined {s u : State} (hs : Sound s) {line : ParkLine}
    (heq : u = { s with
      cams := u.cams, notices := u.notices, parkLine := line, told := u.told, parkn := u.parkn
      qualification := u.qualification })
    (hcam : ∀ c, u.cam c = (s.cam c).relined line) (htold : line = .asserted → u.told = .const true)
    (hpark : ParkLineSound u) : Sound u := by
  have hmode : u.mode = s.mode := by rw [heq]
  have hitems : u.items = s.items := by rw [heq]
  have htracker : u.tracker = s.tracker := by rw [heq]
  have htable : u.table = s.table := by rw [heq]
  have henabled : ∀ c, u.enabled c = s.enabled c := fun c => by
    rw [State.enabled, State.enabled, hcam]
    exact decide_eq_decide.2 (not_congr ((s.cam c).relined_state_iff line (st := .disabled) nofun nofun))
  constructor
  · rw [hitems]; exact hs.items
  · rw [heq]; exact hs.mode
  · rw [heq]; exact hs.tracker
  · exact hs.table.same htable hmode henabled
  · exact hs.outcomes.same htable (by rw [htracker]; exact id) fun c => by
      rw [hcam]
      exact ((s.cam c).relined_state_iff line (st := .fault) nofun nofun).1
  · exact fun c => (hs.cams c).relined hmode hitems htracker (by rw [heq])
      (fun h => by rw [htold h]; exact PerCam.get_const _ _) (hcam c)
  · exact hpark
  · rw [heq]; exact hs.link
  · rw [heq]; exact hs.counters

section ParkLine

variable {s : State} (hs : Sound s)
include hs

omit hs in
/-- A cam without a release to take is relined at its channel alone. -/
theorem CamState.relined_asserted (k : CamState) :
    { k with channel := k.channel.follow .asserted } = k.relined .asserted := by
  unfold CamState.relined
  rw [if_neg fun h => by cases h.2]

/-- An assertion of the line at the channels (R145). -/
theorem Sound.assertLine (hhigh : s.rstn = .high) :
    Sound (({ s with parkn := .low, qualification := none } : State).assertLine) := by
  unfold State.assertLine
  have heq := State.followPark_eq ((({ s with
    parkn := .low, qualification := none, parkLine := .asserted, told := .const true } : State).notify .parkLine))
  have hcam := State.followPark_cam ((({ s with
    parkn := .low, qualification := none, parkLine := .asserted, told := .const true } : State).notify .parkLine))
  generalize hu : State.followPark _ = u at heq hcam ⊢
  refine hs.relined (line := .asserted) (by rw [heq]; rfl) (fun c => ?_) (fun _ => by rw [heq]; rfl) ?_
  · rw [hcam]
    exact CamState.relined_asserted _
  · rw [heq]
    unfold ParkLineSound
    simp [State.notify, hhigh]

/-- A sequencer with nothing to take under the present line has been told of nothing. -/
theorem Sound.untold {c : Cam} (h : (s.cam c).phaser.state.inService = true → s.parkLine = .released) :
    Sound { s with told := s.told.set c false } where
  items := hs.items
  mode := hs.mode
  tracker := hs.tracker
  table := hs.table
  outcomes := hs.outcomes
  cams := fun b => by
    by_cases hb : b = c
    · subst hb
      obtain ⟨lane, arbiter, ⟨enabled, causes, forced, -, rest⟩, loop, command, channel⟩ := hs.cams b
      exact ⟨lane, arbiter, ⟨enabled, causes, forced, fun hp => .inl (h hp), rest⟩, loop, command, channel⟩
    · exact (hs.cams b).congr (s := s) rfl rfl id rfl (PerCam.get_set_ne _ hb _) rfl
  parkLine := by
    have := hs.parkLine
    unfold ParkLineSound at this ⊢
    dsimp only
    cases hr : s.rstn with
    | high => cases hp : s.parkn <;> simpa only [hr, hp] using this
    | low =>
      simp only [hr] at this ⊢
      refine ⟨this.1, ?_⟩
      rw [this.2]
      cases c <;> rfl
  link := hs.link
  counters := hs.counters

/-- A cam in service stood down to the state it rests in under the line. -/
theorem Sound.stoodDown {c : Cam} (hp : (s.cam c).phaser.state.inService = true) :
    Sound { s with
      notices := s.abortNotices c
      cams := s.cams.set c { s.cam c with
        phaser := { (s.cam c).phaser.aborted with
          state := s.parkLine.restState, releaseCount := 0, parkRun := 0, errorRun := 0, eventSeen := false
          allOver := true }
        loop := ⟨0, 0⟩
        channel := (s.cam c).channel.write s.parkLine 0 } } := by
  obtain ⟨alive, notReleasing, notTracking, healthy⟩ := s.parkLine.restState_ne
  have live : (s.cam c).phaser.state ≠ .disabled := fun h => by rw [h] at hp; cases hp
  have sound : (s.cam c).phaser.state ≠ .fault := fun h => by rw [h] at hp; cases hp
  have he : s.enabled c = true := (s.enabled_iff c).2 live
  obtain ⟨-, causes, -, -, -⟩ := (hs.cams c).sequencer
  refine hs.of_set ?_ (by simp [alive, live]) (fun h => absurd h healthy)
  constructor
  · exact (hs.cams c).lane.set rfl (by simp [alive, live])
  · exact (hs.cams c).arbiter.set rfl (fun h => absurd h healthy) (fun h => absurd h alive)
  · refine SequencerSound.stood hs he rfl alive notReleasing notTracking ?_ (fun h => ?_) (fun h => ?_)
    · exact ⟨fun _ => healthy, fun _ => causes.2 sound⟩
    · cases hl : s.parkLine with
      | asserted => rfl
      | released => rw [hl] at h; cases h
    · cases hl : s.parkLine with
      | released => exact .inl rfl
      | asserted => rw [hl] at h; cases h
  · exact LoopSound.zero rfl
  · exact CommandSound.write rfl (Nat.zero_le _) (fun h => absurd h notReleasing) fun _ _ => rfl
  · exact (hs.cams c).channel.write rfl fun h => absurd h sound

end ParkLine

theorem State.parkOnRelease_eq (s : State) (c : Cam) :
    s.parkOnRelease c =
      if (s.cam c).phaser.state = .forced then
        { s with cams := s.cams.set c { s.cam c with
          phaser := { (s.cam c).phaser with state := .parked }
          channel := (s.cam c).channel.write s.parkLine 0 } }
      else s := by
  unfold State.parkOnRelease
  dsimp only
  split
  · simp [State.command, State.setCam, State.cam]
  · rfl

theorem Channel.write_write_zero (h : Channel) (line : ParkLine) :
    (h.write line 0).write line 0 = h.write line 0 := by
  rw [Channel.write, if_pos (Channel.write_command h line 0).symm]

/-- What a sequencer that was told of an assertion makes of it: a cam in service is stood down to the state it
rests in under the line as it stands (R106, R107). -/
theorem State.takeAssertion_of_told {s : State} {c : Cam} (ht : s.told.get c = true)
    (hforced : (s.cam c).phaser.state = .forced → s.parkLine = .asserted) :
    State.takeAssertion c s =
      if (s.cam c).phaser.state.inService = true then
        { s with
          told := s.told.set c false
          notices := s.abortNotices c
          cams := s.cams.set c { s.cam c with
            phaser := { (s.cam c).phaser.aborted with
              state := s.parkLine.restState, releaseCount := 0, parkRun := 0, errorRun := 0, eventSeen := false
              allOver := true }
            loop := ⟨0, 0⟩
            channel := (s.cam c).channel.write s.parkLine 0 } }
      else { s with told := s.told.set c false } := by
  unfold State.takeAssertion
  rw [if_pos ht]
  have hcam : State.cam { s with told := s.told.set c false } c = s.cam c := rfl
  unfold State.forceOnAssert
  rw [hcam]
  split
  next hp =>
    rw [State.abortLearn_standDown]
    cases hl : s.parkLine with
    | asserted =>
      simp [ParkLine.restState, State.cam, State.abortNotices]
      rfl
    | released =>
      simp [ParkLine.restState, State.cam, State.abortNotices, State.parkOnRelease, State.setCam, State.command,
        Channel.write_write_zero]
      rfl
  next hp =>
    cases hl : s.parkLine with
    | asserted => rfl
    | released =>
      have still : (s.cam c).phaser.state ≠ .forced := fun h => by rw [hforced h] at hl; cases hl
      exact (State.parkOnRelease_eq _ c).trans (if_neg still)

section TakeUp

variable {s : State} (hs : Sound s)
include hs

theorem Sound.takeAssertion (c : Cam) : Sound (State.takeAssertion c s) := by
  by_cases ht : s.told.get c = true
  · rw [State.takeAssertion_of_told ht (hs.cams c).sequencer.2.2.1]
    split
    next hp =>
      refine (hs.stoodDown hp).untold (c := c) fun h => ?_
      have h : s.parkLine.restState.inService = true := by simpa [State.cam] using h
      change s.parkLine = .released
      cases hl : s.parkLine with
      | released => rfl
      | asserted => rw [hl] at h; cases h
    next hp => exact hs.untold fun h => absurd h hp
  · rw [State.takeAssertion, if_neg ht]
    exact hs

theorem Sound.takeUp : Sound s.takeUp := by
  refine State.eachCam_keeps (P := Sound) (fun c u hu => ?_) hs
  split
  · exact hu
  · exact hu.takeAssertion c

theorem Sound.hearAssertion : Sound s.hearAssertion := by
  unfold State.hearAssertion
  split
  · exact hs
  · exact Sound.takeUp (hs.besides hs.tracker (fun h => (hs.mode.1 h).1) (fun h => h) hs.counters)

/-- A change of the pin and of the qualification beside a line that stays. -/
theorem Sound.with_parkn {level : Level} {q : Option Nat}
    (h : ParkLineSound { s with parkn := level, qualification := q }) :
    Sound { s with parkn := level, qualification := q } where
  items := hs.items
  mode := hs.mode
  tracker := hs.tracker
  table := hs.table
  outcomes := hs.outcomes
  cams := fun c => (hs.cams c).congr (s := s) rfl rfl id rfl rfl rfl
  parkLine := h
  link := hs.link
  counters := hs.counters

theorem Sound.fallOfParkn : Sound s.fallOfParkn := by
  unfold State.fallOfParkn
  split
  next hr =>
    refine hs.with_parkn (level := .low) (q := s.qualification) ?_
    have := hs.parkLine
    unfold ParkLineSound at this ⊢
    simpa only [hr] using this
  next hr =>
    have high : s.rstn = .high := by
      cases h : s.rstn with
      | high => rfl
      | low => exact absurd h hr
    dsimp only
    split
    next => exact (hs.assertLine high).hearAssertion
    next hl =>
      have sound : Sound { s with parkn := .low, qualification := none } := by
        refine hs.with_parkn ?_
        unfold ParkLineSound
        simp [high, hl]
      rw [sound.followPark_eq]
      exact sound

omit hs in
theorem State.eachCam_parkOnRelease (s : State) :
    s.eachCam (fun c u => u.parkOnRelease c) = { s with cams := (s.eachCam (fun c u => u.parkOnRelease c)).cams } :=
  State.eachCam_keeps (P := fun u => u = { s with cams := u.cams }) (fun c u hu => by
    rw [State.parkOnRelease_eq]
    split
    · rw [hu]
    · exact hu) rfl

omit hs in
/-- The line at the channels and its release at the sequencers change the cams alone (R146). -/
theorem State.releaseLine_eq (s : State) :
    s.releaseLine = { s with
      cams := s.releaseLine.cams, qualification := none, parkLine := .released
      notices := s.notices ||| BitVec.twoPow 16 Notice.parkLine.bit } := by
  unfold State.releaseLine
  rw [State.eachCam_parkOnRelease, State.followPark_eq]
  rfl

omit hs in
theorem State.releaseLine_cam (s : State) (c : Cam) :
    s.releaseLine.cam c =
      if (s.cam c).phaser.state = .forced then
        { s.cam c with
          phaser := { (s.cam c).phaser with state := .parked }
          channel := ((s.cam c).channel.follow .released).write .released 0 }
      else { s.cam c with channel := (s.cam c).channel.follow .released } := by
  unfold State.releaseLine
  rw [State.eachCam_cam (f := fun c u => u.parkOnRelease c)
    (g := fun _ k => if k.phaser.state = .forced then
        { k with phaser := { k.phaser with state := .parked }, channel := k.channel.write .released 0 }
      else k) (fun c u => u.parkOnRelease_localTo c) (fun c u hu => ?_) c, State.followPark_cam]
  · rfl
  · rw [State.parkOnRelease_eq, hu.parkLine, State.followPark_eq]
    split
    · exact PerCam.get_set_self _ _ _
    · rfl

/-- A release of the line (R107, R146). -/
theorem Sound.releaseLine (hhigh : s.rstn = .high) (hpin : s.parkn = .high) : Sound s.releaseLine := by
  have heq := s.releaseLine_eq
  have hcam := s.releaseLine_cam
  generalize s.releaseLine = u at heq hcam ⊢
  refine hs.relined (line := .released) (by rw [heq]) (fun c => ?_) nofun ?_
  · rw [hcam]
    unfold CamState.relined
    split
    next hf =>
      have quiet : (s.cam c).channel.command = 0 := (hs.cams c).command.2.2 (by rw [hf]; nofun) (by rw [hf]; nofun)
      rw [if_pos ⟨hf, rfl⟩, Channel.write, if_pos (by rw [Channel.follow_command]; exact quiet.symm)]
    next hf => rw [if_neg fun h => hf h.1]
  · rw [heq]
    unfold ParkLineSound
    simp [hhigh, hpin]

end TakeUp

end Sys2Proof.Machine

/-! ## Every step keeps soundness -/

namespace Sys2Proof.Machine

/-- An event that keeps soundness at its instant keeps it whenever it is taken (log 1). -/
theorem Sound.at {s : State} (hs : Sound s) {t : Nat} {event : State → State}
    (h : ∀ u : State, Sound u → u.now = t → Sound (event u)) : Sound (s.at t event) := by
  by_cases ht : t < s.now
  · rw [State.at_of_lt ht]
    exact hs
  · rw [State.at_of_le (Nat.not_lt.1 ht)]
    exact h _ (hs.later (Nat.not_lt.1 ht)) rfl

theorem Option.isSome_of_any {α : Type} {o : Option α} {p : α → Bool} (h : o.any p = true) : o.isSome = true := by
  cases o with
  | none => cases h
  | some a => rfl

section Commands

variable {s : State} (hs : Sound s)
include hs

/-! ### Resets and the link -/

theorem Sound.exec_powerOn (rstn parkn : Level) (t : Nat) {u : State} (h : exec (.powerOn rstn parkn t) s = .next u) :
    Sound u := by
  obtain rfl := Host.Outcome.next.inj h
  refine hs.at fun v _ _ => sound_resetBlocks _ _ fun hend => ?_
  cases rstn with
  | high => rfl
  | low => cases hend

theorem Sound.exec_rstn {u : State} (h : exec .rstn s = .next u) : Sound u := by
  obtain rfl := Host.Outcome.next.inj h
  split
  · exact hs
  · exact sound_resetBlocks _ _ nofun

theorem Sound.exec_rstnRise (t : Nat) {u : State} (h : exec (.rstnRise t) s = .next u) : Sound u := by
  obtain rfl := Host.Outcome.next.inj h
  refine hs.at fun v hv _ => ?_
  split
  · exact hv
  next hr =>
    refine hv.rstnRise ?_ t
    cases h : v.rstn with
    | low => rfl
    | high => exact absurd h hr

theorem Sound.exec_readyDelayExpiry (t : Nat) {u : State} (h : exec (.readyDelayExpiry t) s = .next u) : Sound u := by
  obtain rfl := Host.Outcome.next.inj h
  refine hs.at fun v hv _ => ?_
  split
  next hany => exact hv.readyDelay (Option.isSome_of_any hany)
  next => exact hv

theorem Sound.exec_csnFall {u : State} (h : exec .csnFall s = .next u) : Sound u := by
  obtain rfl := Host.Outcome.next.inj h
  split
  · dsimp only
    refine hs.csnFall fun hcold => ?_
    rw [hcold]
    exact .inr rfl
  all_goals exact hs

theorem Sound.exec_csnRise (sampled : List Bool) (t : Nat) {u : State} (h : exec (.csnRise sampled t) s = .next u) :
    Sound u := by
  obtain rfl := Host.Outcome.next.inj h
  refine hs.at fun v hv _ => ?_
  dsimp only
  split
  next => exact hv
  next =>
    have short : v.link.received.length ≤ 43 := hv.link.2.2.2.2.2.2.2.2.2.2
    exact hv.endQuietly (received := v.link.received) (clocked := v.link.clockedOut) short
  next => exact (hv.endQuietly (List.length_take_le _ _)).count _
  next hopen => exact hv.endOpened hopen _ t

theorem Sound.exec_processingComplete (t : Nat) {u : State} (h : exec (.processingComplete t) s = .next u) : Sound u := by
  obtain rfl := Host.Outcome.next.inj h
  refine hs.at fun v hv _ => ?_
  split
  next hbusy =>
    split
    next hanswer => exact hv.formResponse hanswer
    next =>
      obtain ⟨-, -, -, ready, formed, -⟩ := hv.link
      exact sound_resetBlocks _ _ fun _ => (formed (ready hbusy.1)).2.2
    next => exact hv
  next => exact hv

theorem Sound.exec_linkLoss (t : Nat) {u : State} (h : exec (.linkLoss t) s = .next u) : Sound u := by
  obtain rfl := Host.Outcome.next.inj h
  refine hs.at fun v hv _ => ?_
  split
  next hany => exact ((hv.linkLoss (Option.isSome_of_any hany) t).count _).notify _
  next => exact hv

theorem Sound.exec_softReset {u : State} (h : exec .softReset s = .next u) : Sound u := by
  obtain rfl := Host.Outcome.next.inj h
  split
  next hd => exact hs.answer (by rw [hd]; rfl) nofun
  next => exact hs.serve .softReset fun p _ => .refuse hs .badLength

theorem Sound.exec_commit (t : Nat) {u : State} (h : exec (.commit t) s = .next u) : Sound u := by
  obtain rfl := Host.Outcome.next.inj h
  refine hs.at fun v hv _ => hv.serve .commit fun p hd => .inConfig hv fun hm => ?_
  exact .commit hv hm (hv.ready_of_delivers hd) t p

/-! ### The engine -/

theorem Sound.exec_crkEdge (edge : Edge) (t : Nat) {u : State} (h : exec (.crkEdge edge t) s = .next u) : Sound u := by
  obtain rfl := Host.Outcome.next.inj h
  refine hs.at fun v hv ht => ?_
  split
  next hrun => exact ht ▸ hv.crankEdge hrun.1
  next => exact hv

theorem Sound.exec_stall (t : Nat) {u : State} (h : exec (.stall t) s = .next u) : Sound u := by
  obtain rfl := Host.Outcome.next.inj h
  refine hs.at fun v hv _ => ?_
  split
  · exact hv.stalled
  · exact hv

theorem Sound.exec_windowClose (c : Cam) (j t : Nat) {u : State} (h : exec (.windowClose c j t) s = .next u) :
    Sound u := by
  obtain rfl := Host.Outcome.next.inj h
  refine hs.at fun v hv _ => ?_
  unfold State.interpolatedClose
  split
  next k y hy =>
    dsimp only
    split
    · exact hv.closeBy (by rw [hy]; rfl) _ _ _ _
    · exact hv
  next => exact hv

omit hs in
theorem clockAt_lt (g : GlobalItems) (k : Tooth) {modulus : Nat} (h : 0 < modulus) (t : Nat) :
    clockAt g k modulus t < modulus :=
  Nat.mod_lt _ h

theorem Sound.resolve {k : Tooth} (hy : s.tracker.sync = .crankSync k) {c : Cam} (he : s.enabled c = true) (t : Nat)
    {u : State} (h : s.resolve k c t = .next u) : Sound u := by
  have bound := clockAt_lt s.items.global k (modulus := 5760) (by omega) t
  unfold State.resolve at h
  dsimp only at h
  split at h
  · obtain rfl := Host.Outcome.next.inj h
    exact hs.gainSync hy he _ (by omega)
  · obtain rfl := Host.Outcome.next.inj h
    exact hs.gainSync hy he _ (by omega)
  · obtain rfl := Host.Outcome.next.inj h
    exact hs.count _
  · cases h

theorem Sound.engineEdge {k : Tooth} {y : Cycle} (hy : s.tracker.sync = .engineSync k y) {c : Cam}
    (he : s.enabled c = true) (t : Nat) : Sound (s.engineEdge k y c t) := by
  obtain ⟨speed, hk⟩ := hs.tracker
  rw [hy] at hk
  obtain ⟨tooth, angle, covered, run⟩ := hk
  unfold State.engineEdge
  dsimp only
  generalize edgeReport (s.cam c).lane.windows _ = report
  split
  · have noted : Sound { s with tracker := ⟨.engineSync k (y.note report), s.tracker.speed⟩ } :=
      hs.setTracker (hs.run_of_moving (by rw [hy]; nofun))
        ⟨speed, tooth, by cases report <;> exact ⟨angle, covered, run⟩⟩ fun _ => rfl
    exact noted.classify rfl he _
  · exact hs.classify (by rw [hy]; rfl) he _

theorem Sound.exec_camEdge (c : Cam) (edge : Edge) (t : Nat) {u : State} (h : exec (.camEdge c edge t) s = .next u) :
    Sound u := by
  by_cases ht : t < s.now
  · have : exec (.camEdge c edge t) s = .next s := if_pos ht
    obtain rfl := Host.Outcome.next.inj (this.symm.trans h)
    exact hs
  · rw [exec_camEdge_eq (Nat.not_lt.1 ht)] at h
    have later := hs.later (Nat.not_lt.1 ht)
    split at h
    next hlive =>
      unfold State.camEdge at h
      split at h
      · obtain rfl := Host.Outcome.next.inj h
        exact later
      · obtain rfl := Host.Outcome.next.inj h
        exact later
      next k hy =>
        split at h
        · exact later.resolve hy hlive.1 t h
        · obtain rfl := Host.Outcome.next.inj h
          exact later
      next k y hy =>
        obtain rfl := Host.Outcome.next.inj h
        exact later.engineEdge hy hlive.1 t
    next =>
      obtain rfl := Host.Outcome.next.inj h
      exact later

/-! ### The valves and the park line -/

theorem Sound.exec_overcurrent (c : Cam) (current : Nat) {u : State} (h : exec (.overcurrent c current) s = .next u) :
    Sound u := by
  obtain rfl := Host.Outcome.next.inj h
  split
  next hc => exact hs.overcurrent hc.1
  next => exact hs

theorem Sound.exec_pwmPeriodEnd (means : PerCam Nat) (t : Nat) {u : State}
    (h : exec (.pwmPeriodEnd means t) s = .next u) : Sound u := by
  obtain rfl := Host.Outcome.next.inj h
  refine hs.at fun v hv _ => ?_
  split
  next b hb =>
    split
    · exact hv.periodEnd hb means
    · exact hv
  next => exact hv

theorem Sound.exec_dutyElapsed (c : Cam) (t : Nat) {u : State} (h : exec (.dutyElapsed c t) s = .next u) :
    Sound u := by
  obtain rfl := Host.Outcome.next.inj h
  refine hs.at fun v hv _ => ?_
  dsimp only
  split
  next hd => exact hv.dutyElapsed hd.1
  next => exact hv

theorem Sound.exec_parkLineAssert {u : State} (h : exec .parkLineAssert s = .next u) : Sound u := by
  obtain rfl := Host.Outcome.next.inj h
  split
  · exact hs.fallOfParkn
  · exact hs.hearAssertion

theorem Sound.exec_parknRise (t : Nat) {u : State} (h : exec (.parknRise t) s = .next u) : Sound u := by
  obtain rfl := Host.Outcome.next.inj h
  refine hs.at fun v hv _ => ?_
  have line := hv.parkLine
  unfold ParkLineSound at line
  split
  · exact hv.hearAssertion
  next hpin =>
    have low : v.parkn = .low := by
      cases h : v.parkn with
      | low => rfl
      | high => exact absurd h hpin
    split
    next hq =>
      refine hv.with_parkn (level := .high) (q := some t) ?_
      unfold ParkLineSound
      simp [hq.1, hq.2]
    next hq =>
      refine hv.with_parkn (level := .high) (q := v.qualification) ?_
      unfold ParkLineSound
      cases hr : v.rstn with
      | low => simpa [hr] using line
      | high =>
        simp only [hr, low] at line
        exact absurd ⟨hr, line.1⟩ hq

theorem Sound.exec_parkLineRelease (t : Nat) {u : State} (h : exec (.parkLineRelease t) s = .next u) : Sound u := by
  obtain rfl := Host.Outcome.next.inj h
  refine hs.at fun v hv _ => ?_
  split
  · exact hv.hearAssertion
  · split
    next hq =>
      refine hv.releaseLine ?_ hq.1
      have line := hv.parkLine
      unfold ParkLineSound at line
      cases hr : v.rstn with
      | high => rfl
      | low =>
        simp only [hr] at line
        have := Option.isSome_of_any hq.2
        rw [line.1] at this
        cases this
    next => exact hv

/-- Every command keeps soundness. -/
theorem Sound.exec {i : Instr} {u : State} (h : exec i s = .next u) : Sound u := by
  have served : ∀ {r : Request} {owner : State → List Byte → Reply} {v : State},
      Host.Outcome.next (s.serve r owner) = (.next v : Host.Outcome State Fault Refusal) →
      (∀ p, ReplyFits s (owner s p)) → Sound v := fun heq hfits => by
    obtain rfl := Host.Outcome.next.inj heq
    exact hs.serve _ fun p _ => hfits p
  cases i with
  | powerOn rstn parkn t => exact hs.exec_powerOn rstn parkn t h
  | rstn => exact hs.exec_rstn h
  | rstnRise t => exact hs.exec_rstnRise t h
  | readyDelayExpiry t => exact hs.exec_readyDelayExpiry t h
  | csnFall => exact hs.exec_csnFall h
  | csnRise sampled t => exact hs.exec_csnRise sampled t h
  | processingComplete t => exact hs.exec_processingComplete t h
  | linkLoss t => exact hs.exec_linkLoss t h
  | softReset => exact hs.exec_softReset h
  | commit t => exact hs.exec_commit t h
  | crkEdge edge t => exact hs.exec_crkEdge edge t h
  | stall t => exact hs.exec_stall t h
  | windowClose c j t => exact hs.exec_windowClose c j t h
  | camEdge c edge t => exact hs.exec_camEdge c edge t h
  | overcurrent c current => exact hs.exec_overcurrent c current h
  | pwmPeriodEnd means t => exact hs.exec_pwmPeriodEnd means t h
  | dutyElapsed c t => exact hs.exec_dutyElapsed c t h
  | parkLineAssert => exact hs.exec_parkLineAssert h
  | parknRise t => exact hs.exec_parknRise t h
  | parkLineRelease t => exact hs.exec_parkLineRelease t h
  | nop => exact served h fun p => .nop hs p
  | engineStatus => exact served h fun p => .engineStatus hs p
  | camStatus => exact served h fun p => .camStatus hs p
  | noticeRead => exact served h fun p => .noticeRead hs p
  | noticeMask => exact served h fun p => .noticeMask hs p
  | countersRead => exact served h fun p => .countersRead hs p
  | configRead => exact served h fun p => .configRead hs p
  | configWrite => exact served h fun p => .inConfig hs fun hm => .configWrite hs hm p
  | post => exact served h fun p => .inRun hs fun hm => .post hs hm p
  | amend => exact served h fun p => .inRun hs fun hm => .amend hs hm p
  | renew => exact served h fun p => .inRun hs fun _ => .renew hs p
  | retire => exact served h fun p => .inRun hs fun _ => .retire hs p
  | retireOwner => exact served h fun p => .inRun hs fun _ => .retireOwner hs p
  | query => exact served h fun p => .inRun hs fun _ => .query hs p
  | scan => exact served h fun p => .inRun hs fun _ => .scan hs p
  | learn => exact served h fun p => .inRun hs fun _ => .learn hs p
  | clearFault => exact served h fun p => .inRun hs fun _ => .clearFault hs p
  | reopen => exact served h fun p => .inRun hs fun _ => .reopen hs p

end Commands

/-- Settles O3: each command keeps every relation of `Sound` (`Sound.exec`). -/
theorem stepKeepsSound : Obligations.StepKeepsSound := by
  intro s u hs h
  unfold step at h
  split at h
  · obtain rfl := Host.Outcome.next.inj h
    exact hs
  · exact (hs.with_pending _).exec h

end Sys2Proof.Machine

/-! ## Notices latch, CYCLES stands and learned offsets stand (R40, R176, R179) -/

namespace Sys2Proof.Machine

/-- Every notice set in `s` is set in `u`, and CYCLES is the same. -/
structure Latches (s u : State) : Prop where
  notices : ∀ n : Notice, s.noticeSet n = true → u.noticeSet n = true
  cycles : u.counters.cycles = s.counters.cycles

/-- `u` keeps besides every cam's learned offset. -/
structure Steady (s u : State) : Prop extends Latches s u where
  offsets : ∀ c : Cam, (u.cam c).lane.offset = (s.cam c).lane.offset

theorem Latches.refl (s : State) : Latches s s := ⟨fun _ h => h, rfl⟩

theorem Latches.trans {s u v : State} (h : Latches s u) (k : Latches u v) : Latches s v :=
  ⟨fun n hn => k.notices n (h.notices n hn), k.cycles.trans h.cycles⟩

theorem Steady.refl (s : State) : Steady s s := ⟨.refl s, fun _ => rfl⟩

theorem Steady.trans {s u v : State} (h : Steady s u) (k : Steady u v) : Steady s v :=
  ⟨h.toLatches.trans k.toLatches, fun c => (k.offsets c).trans (h.offsets c)⟩

/-- A change of what is neither a notice, a counter nor a cam. -/
theorem Steady.of_same {s u : State} (hn : u.notices = s.notices) (hk : u.counters = s.counters)
    (hc : u.cams = s.cams) : Steady s u :=
  ⟨⟨fun n h => by rw [State.noticeSet, hn]; exact h, by rw [hk]⟩, fun c => by rw [State.cam, hc]; rfl⟩

theorem Latches.ite {s u v : State} {p : Prop} [Decidable p] (h : Latches s u) (k : Latches s v) :
    Latches s (if p then u else v) := by
  split
  · exact h
  · exact k

theorem Steady.ite {s u v : State} {p : Prop} [Decidable p] (h : Steady s u) (k : Steady s v) :
    Steady s (if p then u else v) := by
  split
  · exact h
  · exact k

/-! ### The operations on the state -/

theorem State.setCam_latches (s : State) (c : Cam) (k : CamState) : Latches s (s.setCam c k) := ⟨fun _ h => h, rfl⟩

theorem State.setCam_steady (s : State) (c : Cam) {k : CamState} (h : k.lane.offset = (s.cam c).lane.offset) :
    Steady s (s.setCam c k) := by
  refine ⟨s.setCam_latches c k, fun b => ?_⟩
  rw [State.setCam_cam]
  split
  next hb => rw [hb, h]
  next => rfl

theorem State.setTable_steady (s : State) (t : List Slot) : Steady s { s with table := t } := .of_same rfl rfl rfl

theorem State.setTracker_steady (s : State) (y : Sync) (v : Nat) : Steady s (s.setTracker y v) :=
  .of_same rfl rfl rfl

theorem State.notify_steady (s : State) (n : Notice) : Steady s (s.notify n) :=
  ⟨⟨fun m h => s.notify_keeps m n h, rfl⟩, fun _ => rfl⟩

theorem State.count_steady (s : State) (k : Counter) : Steady s (s.count k) :=
  ⟨⟨fun _ h => h, Counters.put_cycles _ _ _⟩, fun _ => rfl⟩

theorem State.countTimes_steady (s : State) (k : Counter) (n : Nat) : Steady s (s.countTimes k n) := by
  induction n generalizing s with
  | zero => exact .refl s
  | succ n ih => exact (s.count_steady k).trans (ih _)

theorem State.eachCam_latches (s : State) {f : Cam → State → State} (h : ∀ c u, Latches u (f c u)) :
    Latches s (s.eachCam f) := by
  rw [State.eachCam_eq]
  exact (((h .fi _).trans (h .fe _)).trans (h .ri _)).trans (h .re _)

theorem State.eachCam_steady (s : State) {f : Cam → State → State} (h : ∀ c u, Steady u (f c u)) :
    Steady s (s.eachCam f) := by
  rw [State.eachCam_eq]
  exact (((h .fi _).trans (h .fe _)).trans (h .ri _)).trans (h .re _)

theorem State.command_steady (s : State) (c : Cam) (mA : Nat) : Steady s (s.command c mA) := s.setCam_steady c (by rfl)

theorem State.setChannel_steady (s : State) (c : Cam) (h : Channel) : Steady s (s.setChannel c h) :=
  s.setCam_steady c (by rfl)

/-! ### The sequencer -/

theorem State.endLearn_steady (s : State) (c : Cam) (x : LearnResult) : Steady s (s.endLearn c x) :=
  (s.setCam_steady c (by rfl)).trans (State.notify_steady _ _)

theorem State.abortLearn_steady (s : State) (c : Cam) : Steady s (s.abortLearn c) :=
  Steady.ite (s.endLearn_steady c .aborted) (.refl s)

theorem State.standDown_steady (s : State) (c : Cam) (st : PhaserState) : Steady s (s.standDown c st) :=
  (s.setCam_steady c (by rfl)).trans (State.command_steady _ c 0)

theorem State.enterFault_steady (s : State) (c : Cam) (cause : Cause) : Steady s (s.enterFault c cause) :=
  ((((s.abortLearn_steady c).trans (State.standDown_steady _ c .fault)).trans
    (State.setCam_steady _ c (by rfl))).trans ((State.count_steady _ _).trans (State.notify_steady _ _))).trans
      ((State.setCam_steady _ c (by rfl)).trans (State.setTable_steady _ _))

theorem State.reportFault_steady (s : State) (c : Cam) (cause : Cause) : Steady s (s.reportFault c cause) := by
  unfold State.reportFault
  split
  · exact .refl s
  · exact (s.setCam_steady c (by rfl)).trans ((State.count_steady _ _).trans (State.notify_steady _ _))
  all_goals exact s.enterFault_steady c cause

theorem State.releaseMark_steady (s : State) (c : Cam) : Steady s (s.releaseMark c) :=
  Steady.ite ((s.setCam_steady c (by rfl)).trans (State.setCam_steady _ c (by rfl)))
    (Steady.ite ((s.setCam_steady c (by rfl)).trans (State.reportFault_steady _ c _)) (s.setCam_steady c (by rfl)))

theorem State.trackMark_steady (s : State) (c : Cam) : Steady s (s.trackMark c) :=
  Steady.ite (.refl s)
    (Steady.ite ((s.setCam_steady c (by rfl)).trans (State.reportFault_steady _ c _)) (s.setCam_steady c (by rfl)))

theorem State.cycleMark_steady (s : State) (c : Cam) : Steady s (s.cycleMark c) := by
  unfold State.cycleMark
  split
  · exact s.releaseMark_steady c
  · exact s.trackMark_steady c
  all_goals exact .refl s

theorem State.completeLearn_latches (s : State) (c : Cam) : Latches s (s.completeLearn c) :=
  Latches.ite ((s.setCam_latches c _).trans (State.endLearn_steady _ c _).toLatches) (s.endLearn_steady c _).toLatches

theorem State.learnSample_latches (s : State) (c : Cam) (d : Int) : Latches s (s.learnSample c d) :=
  Latches.ite
    (Latches.ite ((s.setCam_latches c _).trans (State.completeLearn_latches _ c)) (s.setCam_latches c _)) (.refl s)

theorem State.beginRelease_steady (s : State) (c : Cam) : Steady s (s.beginRelease c) :=
  ((s.abortLearn_steady c).trans (State.setCam_steady _ c (by rfl))).trans (State.command_steady _ c _)

theorem State.trackTests_steady (s : State) (c : Cam) (d : Int) : Steady s (s.trackTests c d) :=
  Steady.ite ((s.setCam_steady c (by rfl)).trans (State.command_steady _ c 0)) (s.setCam_steady c (by rfl))

theorem State.takeEvent_latches (s : State) (c : Cam) (j : Nat) (d : Int) : Latches s (s.takeEvent c j d) := by
  unfold State.takeEvent
  dsimp only
  split
  · exact Latches.ite (s.beginRelease_steady c).toLatches (s.learnSample_latches c d)
  · exact Latches.ite ((s.setCam_latches c _).trans (State.command_steady _ c 0).toLatches)
      (Latches.ite (s.setCam_latches c _) (.refl s))
  · exact ((s.setCam_latches c _).trans (State.command_steady _ c _).toLatches).trans
      (State.trackTests_steady _ c d).toLatches
  all_goals exact .refl s

/-! ### Measurement -/

theorem State.arbitrate_steady (s : State) (c : Cam) : Steady s (s.arbitrate c) := by
  have written : ∀ (a : Arbiter) (t : List Slot),
      Steady s { s.setCam c { s.cam c with arbiter := a } with table := t } := fun a t =>
    (s.setCam_steady c (by rfl)).trans (State.setTable_steady _ t)
  unfold State.arbitrate
  exact Steady.ite (written _ _) (Steady.ite ((written _ _).trans (State.notify_steady _ _)) (written _ _))

theorem State.measurementEvent_latches (s : State) (c : Cam) (j : Nat) (d : Int) :
    Latches s (s.measurementEvent c j d) :=
  (Latches.ite (Latches.ite (s.arbitrate_steady c).toLatches (.refl s)) (.refl s)).trans
    (State.takeEvent_latches _ c j d)

theorem State.measure_latches (s : State) (c : Cam) (j base a : Nat) : Latches s (s.measure c j base a) :=
  ((s.setCam_latches c _).trans (State.count_steady _ _).toLatches).trans (State.measurementEvent_latches _ c j _)

theorem State.classify_latches (s : State) (c : Cam) (a : Nat) : Latches s (s.classify c a) := by
  unfold State.classify
  dsimp only
  split
  · split
    · exact Latches.ite (s.count_steady _).toLatches (s.measure_latches c _ _ a)
    · exact .refl s
  · exact Latches.ite ((s.count_steady _).toLatches.trans (State.count_steady _ _).toLatches)
      (s.count_steady _).toLatches

theorem State.miss_steady (s : State) (c : Cam) : Steady s (s.miss c) :=
  have counted := s.count_steady (.ofCam c .missed)
  Steady.ite
    (Steady.ite ((counted.trans (State.setCam_steady _ c (by rfl))).trans (State.reportFault_steady _ c _))
      (counted.trans (State.setCam_steady _ c (by rfl))))
    counted

theorem State.closeWindow_steady (s : State) (c : Cam) (j : Nat) : Steady s (s.closeWindow c j) := by
  unfold State.closeWindow
  dsimp only
  split
  · exact Steady.ite (s.setCam_steady c (by rfl)) ((s.setCam_steady c (by rfl)).trans (State.miss_steady _ c))
  · exact .refl s

theorem State.closeBy_steady (s : State) (old new : Nat) (c : Cam) (j : Nat) : Steady s (s.closeBy old new c j) := by
  unfold State.closeBy
  split
  · exact Steady.ite (s.closeWindow_steady c j) (.refl s)
  · exact .refl s

theorem State.closeAll_steady (s : State) (old new : Nat) : Steady s (s.closeAll old new) :=
  s.eachCam_steady fun c u =>
    (((u.closeBy_steady old new c 0).trans (State.closeBy_steady _ old new c 1)).trans
      (State.closeBy_steady _ old new c 2)).trans (State.closeBy_steady _ old new c 3)

theorem State.newPitch_steady (s : State) : Steady s s.newPitch := s.eachCam_steady fun c u => u.setCam_steady c (by rfl)

theorem State.gainLanes_steady (s : State) (a : Nat) : Steady s (s.gainLanes a) :=
  s.eachCam_steady fun c u => Steady.ite (u.setCam_steady c (by rfl)) (.refl u)

/-! ### A loss of ENGINE_SYNC, a cycle mark and a tooth -/

theorem State.parkOnLoss_steady (s : State) (c : Cam) : Steady s (s.parkOnLoss c) :=
  Steady.ite ((s.abortLearn_steady c).trans (State.standDown_steady _ c .parked)) (.refl s)

theorem State.clearOnLoss_steady (s : State) (c : Cam) : Steady s (s.clearOnLoss c) :=
  Steady.ite (s.setCam_steady c (by rfl)) (.refl s)

theorem State.loseSync_steady (s : State) : Steady s s.loseSync :=
  (s.eachCam_steady fun c u =>
    ((u.setCam_steady c (by rfl)).trans (State.parkOnLoss_steady _ c)).trans (State.clearOnLoss_steady _ c)).trans
      (State.setTable_steady _ _)

theorem State.countLifetimes_steady (s : State) : Steady s s.countLifetimes :=
  have counted := (s.setTable_steady (s.table.map Slot.countDown)).trans
    (State.countTimes_steady _ .lapsedDemands (lapsing s.table))
  Steady.ite counted (counted.trans (State.notify_steady _ _))

theorem State.closeCycle_steady (s : State) : Steady s s.closeCycle := by
  unfold State.closeCycle
  split
  · exact Steady.ite
      ((((s.count_steady _).trans (State.notify_steady _ _)).trans (State.setTracker_steady _ _ _)).trans
        (State.loseSync_steady _))
      (s.setTracker_steady _ _)
  · exact .refl s

/-- A cycle mark counts itself, and CYCLES stands through the rest of it. -/
theorem State.issueMark_steady (s : State) : Steady s.countCycle s.issueMark :=
  ((State.countLifetimes_steady _).trans (State.eachCam_steady _ fun c u => u.cycleMark_steady c)).trans
    (State.closeCycle_steady _)

theorem State.gapError_steady (s : State) (t : Nat) : Steady s (s.gapError t) :=
  ((s.count_steady _).trans (State.notify_steady _ _)).trans (State.setTracker_steady _ _ _)

theorem State.seekTooth_steady (s : State) (q : Search) (t : Nat) : Steady s (s.seekTooth q t) := by
  unfold State.seekTooth
  dsimp only
  split
  · exact Steady.ite (s.setTracker_steady _ _) (s.setTracker_steady _ _)
  · exact s.setTracker_steady _ _

theorem State.stalled_steady (s : State) : Steady s s.stalled := by
  have counted : Steady s ((s.count .stalls).setTracker .stopped 0) :=
    (s.count_steady _).trans (State.setTracker_steady _ _ _)
  unfold State.stalled
  dsimp only
  split
  · exact .refl s
  · exact counted
  · exact counted.trans (State.notify_steady _ _)
  · exact (counted.trans (State.notify_steady _ _)).trans (State.loseSync_steady _)

/-! ### The valves and the park line -/

theorem State.driverFault_steady (s : State) (c : Cam) (fault : Latch) (cause : Cause) :
    Steady s (s.driverFault c fault cause) :=
  (s.setChannel_steady c _).trans (State.reportFault_steady _ c cause)

theorem State.endPeriod_steady (s : State) (c : Cam) (sensed choice : Nat) : Steady s (s.endPeriod c sensed choice) :=
  (Steady.ite ((s.setChannel_steady c _).trans (State.driverFault_steady _ c _ _)) (s.setChannel_steady c _)).trans
    (State.setChannel_steady _ c _)

theorem State.followPark_steady (s : State) : Steady s s.followPark := s.eachCam_steady fun c u => u.setCam_steady c (by rfl)

theorem State.forceOnAssert_steady (s : State) (c : Cam) : Steady s (s.forceOnAssert c) :=
  Steady.ite ((s.abortLearn_steady c).trans (State.standDown_steady _ c .forced)) (.refl s)

theorem State.parkOnRelease_steady (s : State) (c : Cam) : Steady s (s.parkOnRelease c) :=
  Steady.ite ((s.setCam_steady c (by rfl)).trans (State.command_steady _ c 0)) (.refl s)

theorem State.takeAssertion_steady (c : Cam) (s : State) : Steady s (s.takeAssertion c) := by
  have heard : Steady s { s with told := s.told.set c false } := .of_same rfl rfl rfl
  unfold State.takeAssertion
  split
  · dsimp only
    split
    · exact heard.trans (State.forceOnAssert_steady _ c)
    · exact (heard.trans (State.forceOnAssert_steady _ c)).trans (State.parkOnRelease_steady _ c)
  · exact .refl s

theorem State.hearAssertion_steady (s : State) : Steady s s.hearAssertion := by
  have drawn : Steady s s.drawLagging := .of_same rfl rfl rfl
  exact Steady.ite (.refl s)
    (drawn.trans (State.eachCam_steady _ fun c u => Steady.ite (.refl u) (u.takeAssertion_steady c)))

theorem State.assertLine_steady (s : State) : Steady s s.assertLine := by
  have told : Steady s { s with parkLine := .asserted, told := .const true } := .of_same rfl rfl rfl
  exact (told.trans (State.notify_steady _ _)).trans (State.followPark_steady _)

theorem State.fallOfParkn_steady (s : State) : Steady s s.fallOfParkn := by
  have low : Steady s { s with parkn := .low, qualification := none } := .of_same rfl rfl rfl
  unfold State.fallOfParkn
  dsimp only
  split
  · exact .of_same rfl rfl rfl
  · split
    · exact (low.trans (State.assertLine_steady _)).trans (State.hearAssertion_steady _)
    · exact low.trans (State.followPark_steady _)

theorem State.releaseLine_steady (s : State) : Steady s s.releaseLine := by
  have released : Steady s { s with qualification := none, parkLine := .released } := .of_same rfl rfl rfl
  exact ((released.trans (State.notify_steady _ _)).trans (State.followPark_steady _)).trans
    (State.eachCam_steady _ fun c u => u.parkOnRelease_steady c)

end Sys2Proof.Machine

/-! ## The crank tracker's transitions (R3 to R10, R12, R20) -/

namespace Sys2Proof.Machine

/-! ### What each sync state makes of a tooth -/

theorem engineSpeed_of_pitch (g : GlobalItems) {pitch : Nat} (h : pitch ≠ 0) :
    engineSpeed g pitch = min (600000000 / (pitch * g.teeth)) 65535 := by
  rw [engineSpeed, if_neg h]

theorem longPeriod_iff (missing period prev : Nat) :
    longPeriod missing period prev = true ↔
      if missing = 1 then 3 * prev ≤ 2 * period else 2 * prev ≤ period := by
  unfold longPeriod
  split <;> exact decide_eq_true_iff

/-- The gap test agrees with R8's expectation. -/
theorem gapAfter_eq_gapDue_iff (g : GlobalItems) (k : Tooth) (t : Nat) :
    gapAfter g k t = gapDue g k ↔
      (longPeriod g.missing (toothPeriod k.lastTooth t) k.pitch = true ↔
        k.position = g.teeth - g.missing - 1) := by
  rw [Bool.eq_iff_iff, gapAfter, gapDue, decide_eq_true_iff, GlobalItems.lastPosition]

section Accepted

variable {s : State} {t : Nat} (accepted : ¬ s.tracker.sync.Noise t)
include accepted

theorem State.crankEdge_of_seeking {q : Search} (hs : s.tracker.sync = .seeking q) :
    s.crankEdge t = s.seekTooth q t := by
  rw [Sync.noise_iff, hs] at accepted
  unfold State.crankEdge
  rw [hs]
  exact if_neg accepted

theorem State.crankEdge_of_crankSync {k : Tooth} (hs : s.tracker.sync = .crankSync k) :
    s.crankEdge t =
      if gapAfter s.items.global k t = gapDue s.items.global k then
        s.crankTooth k t (gapAfter s.items.global k t)
      else s.gapError t := by
  rw [Sync.noise_iff, hs] at accepted
  unfold State.crankEdge
  rw [hs]
  exact if_neg accepted

theorem State.crankEdge_of_engineSync {k : Tooth} {y : Cycle} (hs : s.tracker.sync = .engineSync k y) :
    s.crankEdge t =
      if gapAfter s.items.global k t = gapDue s.items.global k then
        s.engineTooth k y t (gapAfter s.items.global k t)
      else (s.gapError t).loseSync := by
  rw [Sync.noise_iff, hs] at accepted
  unfold State.crankEdge
  rw [hs]
  exact if_neg accepted

end Accepted

/-! ### Teeth in SEEKING and CRANK_SYNC -/

theorem State.seekTooth_of_gap {s : State} {q : Search} {t prev : Nat} (hp : q.pitch = some prev)
    (h1 : 1 ≤ q.periods) (hlong : longPeriod s.items.global.missing (toothPeriod q.lastTooth t) prev = true) :
    s.seekTooth q t =
      s.setTracker (.crankSync ⟨t, toothPeriod q.lastTooth t,
          toothPeriod q.lastTooth t / (s.items.global.missing + 1), prev, 0, 0⟩)
        (engineSpeed s.items.global (toothPeriod q.lastTooth t / (s.items.global.missing + 1))) := by
  unfold State.seekTooth
  rw [hp]
  exact if_pos ⟨by omega, hlong⟩

theorem State.seekTooth_of_short {s : State} {q : Search} {t prev : Nat} (hp : q.pitch = some prev)
    (h1 : 1 ≤ q.periods) (hshort : ¬ longPeriod s.items.global.missing (toothPeriod q.lastTooth t) prev = true) :
    s.seekTooth q t =
      s.setTracker (.seeking ⟨t, 2, some (toothPeriod q.lastTooth t), some (toothPeriod q.lastTooth t), some prev⟩)
        s.tracker.speed := by
  have second : min 2 (q.periods + 1) = 2 := by omega
  unfold State.seekTooth
  rw [hp]
  dsimp only
  rw [if_neg fun h => hshort h.2, second]

theorem State.seekTooth_first {s : State} {q : Search} {t : Nat} (hp : q.pitch = none) (h0 : q.periods = 0) :
    s.seekTooth q t =
      s.setTracker (.seeking ⟨t, 1, some (toothPeriod q.lastTooth t), some (toothPeriod q.lastTooth t), none⟩)
        s.tracker.speed := by
  unfold State.seekTooth
  rw [hp, h0]
  rfl

/-- Settles O8: the three cases are those of the tracker in SEEKING (`State.seekTooth_of_gap` and its neighbours). -/
theorem gapEntersCrankSync : Obligations.GapEntersCrankSync := by
  intro t s q T ht hm hs accepted hT
  have period : toothPeriod q.lastTooth t = T := (toothPeriod_eq _ _).trans hT.symm
  have tooth : exec (.crkEdge s.items.global.crankEdge t) s =
      .next (({ s with now := t } : State).seekTooth q t) := by
    rw [exec_crkEdge_of_run ht hm rfl]
    exact congrArg Host.Outcome.next (State.crankEdge_of_seeking (s := { s with now := t }) accepted hs)
  rw [tooth]
  subst period
  refine ⟨fun prev long hp h1 hlong => ⟨fun isLong => ?_, fun isShort => ?_⟩, fun hp h0 => ?_⟩
  · have test := (longPeriod_iff _ _ _).2 (hlong.1 isLong)
    rw [State.seekTooth_of_gap (s := { s with now := t }) hp h1 test]
    exact ⟨_, rfl, engineSpeed_le _ _, engineSpeed_of_pitch _⟩
  · have test := fun h => isShort (hlong.2 ((longPeriod_iff _ _ _).1 h))
    rw [State.seekTooth_of_short (s := { s with now := t }) hp h1 test]
    rfl
  · rw [State.seekTooth_first hp h0]
    rfl

/-- Settles O9: where the test agrees, the tooth is the one after `k`, at its own position's angle. -/
theorem crankSyncToothIsTaken : Obligations.CrankSyncToothIsTaken := by
  rintro t s k gap n ht hm hs accepted rfl agrees rfl
  rw [exec_crkEdge_of_run ht hm rfl,
    State.crankEdge_of_crankSync (s := { s with now := t }) accepted hs,
    if_pos ((gapAfter_eq_gapDue_iff _ _ _).2 agrees)]
  unfold gapAfter
  generalize longPeriod s.items.global.missing (toothPeriod k.lastTooth t) k.pitch = gap
  refine ⟨_, ?_, engineSpeed_le s.items.global (pitchPeriod s.items.global.missing _ gap), engineSpeed_of_pitch _⟩
  cases gap
  · rfl
  · simp [State.crankTooth, nextTooth, State.setTracker, pitchPeriod]

/-! ### A gap error, and the stall timer -/

theorem mapRecords_slots {α : Type} {f : Record → Record} {g : Record → α} (h : ∀ r, g (f r) = g r) (t : List Slot) :
    (mapRecords f t).map (fun x => (x.generation, x.record.map g)) =
      t.map (fun x => (x.generation, x.record.map g)) := by
  simp only [mapRecords, List.map_map]
  refine List.map_congr_left fun x _ => ?_
  simp only [Function.comp_apply, Option.map_map]
  exact congrArg _ (congrArg (fun f => x.record.map f) (funext h))

/-- Settles O11: the error's own effects come first, and a loss of ENGINE_SYNC moves none of them. -/
theorem gapErrorRestartsSearch : Obligations.GapErrorRestartsSearch := by
  intro t s k ht hm hs accepted differs
  rw [exec_crkEdge_of_run ht hm rfl]
  refine ⟨_, rfl, ?_⟩
  have disagrees : ¬ gapAfter s.items.global k t = gapDue s.items.global k :=
    mt (gapAfter_eq_gapDue_iff _ _ _).1 differs
  have noticed := (({ s with now := t } : State).count .gapErrors).notify_set_self .syncLost
  rcases hs with hs | ⟨y, hs⟩
  · rw [State.crankEdge_of_crankSync (s := { s with now := t }) accepted hs, if_neg disagrees]
    exact ⟨rfl, noticed, rfl, rfl⟩
  · rw [State.crankEdge_of_engineSync (s := { s with now := t }) accepted hs, if_neg disagrees]
    refine ⟨(State.loseSync_camsMove _).tracker, (State.loseSync_steady _).notices _ noticed,
      State.loseSync_counters _, ?_⟩
    rw [State.loseSync_table]
    exact mapRecords_slots (f := Record.withdraw) (fun r => rfl) _

/-- Settles O14: the timer's guard is the time stated, and its expiry is one case per sync state (R20). -/
theorem stallStopsTheTracker : Obligations.StallStopsTheTracker := by
  intro t s ht
  rw [exec_stall_eq ht]
  refine ⟨fun early => ?_, fun t0 hlast late => ?_⟩
  · rw [if_neg]
    rw [timer_expired_iff]
    rintro ⟨t0, hlast, late⟩
    exact Nat.not_lt.2 late (early t0 hlast)
  · rw [if_pos ((timer_expired_iff _ _ _).2 ⟨t0, hlast, late⟩)]
    have notices : s.notices ||| BitVec.twoPow 16 3 = s.notices ||| 0x0008#16 := rfl
    refine ⟨_, rfl, ?_⟩
    unfold State.stalled
    cases hs : s.tracker.sync with
    | stopped => rw [hs] at hlast; cases hlast
    | seeking q => simp [State.setTracker, State.count, Counters.put, Counters.get]
    | crankSync k =>
      simp [State.setTracker, State.count, State.notify, Notice.bit, Counters.put, Counters.get, notices]
    | engineSync k y =>
      simp only [reduceCtorEq, exists_false, false_implies, true_and]
      exact ⟨(State.loseSync_camsMove _).tracker, State.loseSync_counters _, fun _ =>
        (State.loseSync_steady _).notices _ (State.notify_set_self _ _)⟩

end Sys2Proof.Machine

/-! ## Where the machine can stop: the ambiguous half (R15, R154, R155) -/

namespace Sys2Proof.Machine

theorem State.resolve_next_or_ambiguous (s : State) (k : Tooth) (c : Cam) (t : Nat) :
    (∃ u, s.resolve k c t = .next u) ∨
      (windowAt (s.cam c).lane.windows (clockAt s.items.global k 5760 t)).isSome = true ∧
        (windowAt (s.cam c).lane.windows (clockAt s.items.global k 5760 t + 5760)).isSome = true := by
  unfold State.resolve
  dsimp only
  split
  · exact .inl ⟨_, rfl⟩
  · exact .inl ⟨_, rfl⟩
  · exact .inl ⟨_, rfl⟩
  next first second => exact .inr ⟨first, second⟩

theorem State.resolve_of_ambiguous {s : State} {k : Tooth} {c : Cam} {t : Nat}
    (first : (windowAt (s.cam c).lane.windows (clockAt s.items.global k 5760 t)).isSome = true)
    (second : (windowAt (s.cam c).lane.windows (clockAt s.items.global k 5760 t + 5760)).isSome = true) :
    s.resolve k c t = .fault .ambiguousHalf := by
  unfold State.resolve
  dsimp only
  rw [first, second]

/-- A CAM_EDGE that finds both candidates of a phase resolution in windows (R15). -/
def AmbiguousEdge (i : Instr) (s : State) : Prop :=
  ∃ c edge t k, i = .camEdge c edge t ∧ s.now ≤ t ∧ s.enabled c = true ∧ edge = (s.cfg c).edge ∧
    c = s.items.global.referenceCam ∧ s.tracker.sync = .crankSync k ∧
    (windowAt (s.cam c).lane.windows (clockAt s.items.global k 5760 t)).isSome = true ∧
    (windowAt (s.cam c).lane.windows (clockAt s.items.global k 5760 t + 5760)).isSome = true

theorem exec_of_ambiguous {i : Instr} {s : State} (h : AmbiguousEdge i s) : exec i s = .fault .ambiguousHalf := by
  obtain ⟨c, edge, t, k, rfl, ht, he, hedge, hc, hs, first, second⟩ := h
  rw [exec_camEdge_eq ht, if_pos ⟨he, hedge⟩, State.camEdge]
  simp only [hs]
  exact (if_pos hc).trans (State.resolve_of_ambiguous (s := { s with now := t }) first second)

theorem exec_camEdge_next_or_ambiguous (c : Cam) (edge : Edge) (t : Nat) (s : State) :
    (∃ u, exec (.camEdge c edge t) s = .next u) ∨ AmbiguousEdge (.camEdge c edge t) s := by
  by_cases ht : t < s.now
  · exact .inl ⟨s, if_pos ht⟩
  rw [exec_camEdge_eq (Nat.not_lt.1 ht)]
  split
  next live =>
    unfold State.camEdge
    cases hs : s.tracker.sync with
    | crankSync k =>
      dsimp only
      split
      next hc =>
        refine (State.resolve_next_or_ambiguous { s with now := t } k c t).imp_right fun both => ?_
        exact ⟨c, edge, t, k, rfl, Nat.not_lt.1 ht, live.1, live.2, hc, hs, both⟩
      next => exact .inl ⟨_, rfl⟩
    | _ => exact .inl ⟨_, rfl⟩
  next => exact .inl ⟨_, rfl⟩

theorem exec_next_or_ambiguous (i : Instr) (s : State) : (∃ u, exec i s = .next u) ∨ AmbiguousEdge i s := by
  cases i with
  | camEdge c edge t => exact exec_camEdge_next_or_ambiguous c edge t s
  | _ => exact .inl ⟨_, rfl⟩

/-- Settles O5: each row's meaning but CAM_EDGE's is a next state, and CAM_EDGE's case split ends in R15's. -/
theorem onlyAmbiguousHalfStops : Obligations.OnlyAmbiguousHalfStops := by
  intro i s
  refine ⟨fun r refused => ?_, fun ⟨f, fault⟩ => ?_, fun h => ⟨_, exec_of_ambiguous h⟩⟩
  · rcases exec_next_or_ambiguous i s with ⟨u, next⟩ | h
    · rw [next] at refused; cases refused
    · rw [exec_of_ambiguous h] at refused; cases refused
  · rcases exec_next_or_ambiguous i s with ⟨u, next⟩ | h
    · rw [next] at fault; cases fault
    · exact h

/-! ### COMMIT accepted no ambiguous half -/

theorem mem_of_windowAt {ws : List Window} {a : Nat} (h : (windowAt ws a).isSome = true) :
    ∃ w ∈ ws, w.contains a = true := by
  rw [windowAt, List.findIdx?_isSome, List.any_eq_true] at h
  exact h

/-- A window of a sound live lane has the start and the width of one of its bases (R24). -/
theorem LaneSound.window {s : State} {c : Cam} (h : LaneSound s c) (he : s.enabled c = true) {w : Window}
    (hw : w ∈ (s.cam c).lane.windows) :
    w.start ∈ (s.cfg c).starts ∧ w.width = windowWidth (s.cfg c) := by
  obtain ⟨geometry, -⟩ := h
  rw [if_pos he] at geometry
  have built := List.mem_map_of_mem (f := Window.geometry) hw
  rw [geometry, buildWindows, List.map_map, List.mem_map] at built
  obtain ⟨b, hb, same⟩ := built
  simp only [Function.comp_apply, Window.geometry, buildWindow, Prod.mk.injEq] at same
  obtain ⟨-, start, width⟩ := same
  exact ⟨start ▸ List.mem_map_of_mem hb, width.symm⟩

/-- Windows that hold an angle and the angle half a cycle later share an angle once shifted (R155). -/
theorem startsShare_of_halves {width a b x : Nat} (ha : a < 11520) (hb : b < 11520) (hx : x < 5760)
    (first : angleSub x a < width) (second : angleSub (x + 5760) b < width) :
    startsShare width (shifted a) b = true := by
  simp only [startsShare, decide_eq_true_eq]
  unfold angleSub at *
  unfold shifted
  omega

theorem Sound.not_ambiguous {s : State} (hs : Sound s) (i : Instr) : ¬ AmbiguousEdge i s := by
  rintro ⟨c, edge, t, k, -, -, he, -, rfl, -, first, second⟩
  obtain ⟨w, hw, inFirst⟩ := mem_of_windowAt first
  obtain ⟨v, hv, inSecond⟩ := mem_of_windowAt second
  obtain ⟨wStart, wWidth⟩ := (hs.cams _).lane.window he hw
  obtain ⟨vStart, vWidth⟩ := (hs.cams _).lane.window he hv
  have starts_lt : ∀ a ∈ (s.cfg s.items.global.referenceCam).starts, a < 11520 := fun a ha => by
    obtain ⟨b, -, rfl⟩ := List.mem_map.1 ha
    exact windowStart_lt _ b
  have check : s.items.Check 5 :=
    hs.items.validate_eq_none.1 (hs.mode.2.1 (hs.run_of_enabled he)).2.2.2 5 (by omega) (by omega)
  have distinct : (s.cfg s.items.global.referenceCam).halvesDistinct = true :=
    (CamItems.halvesDistinct_iff (hs.items.travel _).2 (hs.items.margin _) (hs.items.windowCount _)).2 check
  have apart := List.all_eq_true.1 (List.all_eq_true.1 distinct _ wStart) _ vStart
  rw [Window.contains_iff, wWidth] at inFirst
  rw [Window.contains_iff, vWidth] at inSecond
  rw [startsShare_of_halves (starts_lt _ wStart) (starts_lt _ vStart)
    (clockAt_lt s.items.global k (modulus := 5760) (by omega) t) inFirst inSecond] at apart
  cases apart

/-- Settles O4: a step stops at an ambiguous edge alone, and COMMIT's check 5 leaves none (`Sound.not_ambiguous`). -/
theorem soundStepNeverStops : Obligations.SoundStepNeverStops := by
  intro s hs
  unfold step
  cases hp : s.pending with
  | nil => exact ⟨_, rfl⟩
  | cons i rest =>
    have sound : Sound { s with pending := rest } := hs.with_pending rest
    exact (exec_next_or_ambiguous i _).resolve_right (sound.not_ambiguous i)

end Sys2Proof.Machine

/-! ## Cam edges and closes (R15 to R18, R28 to R38) -/

namespace Sys2Proof.Machine

/-! ### A measured edge, a second edge, a stray edge -/

theorem State.updatePoint_of_enabled {s : State} {c : Cam} (he : s.enabled c = true) :
    s.updatePoint c = if (s.cam c).phaser.state ≠ .fault then s.arbitrate c else s := by
  have live := (s.enabled_iff c).1 he
  unfold State.updatePoint
  cases h : (s.cam c).phaser.state with
  | disabled => exact absurd h live
  | fault => rfl
  | _ => rfl

/-- A measured edge is the lane's, the arbiter's at an update point, and the sequencer's, in that order (R30, R31). -/
theorem State.measure_eq {s : State} {c : Cam} (he : s.enabled c = true) {j a : Nat} {w : Window} {d : Int}
    (hw : (s.cam c).lane.windows[j]? = some w) (hd : displacement (s.cfg c) (s.cam c).lane.offset w.base a = d)
    {m : State}
    (hm : m = { s with
      counters := s.counters.put (.ofCam c .edges)
        (counterNext s.items.global.counterWrap (s.counters.get (.ofCam c .edges)))
      cams := s.cams.set c { s.cam c with lane :=
        { (s.cam c).lane with
          d := d, dWindow := j, valid := true, missRun := 0
          windows := (s.cam c).lane.windows.set j { w with hit := true } } } }) :
    s.measure c j w.base a =
      (if j = 0 ∧ (s.cam c).phaser.state ≠ .fault then m.arbitrate c else m).takeEvent c j d := by
  have lane : (s.cam c).lane.measure j d = { (s.cam c).lane with
      d := d, dWindow := j, valid := true, missRun := 0
      windows := (s.cam c).lane.windows.set j { w with hit := true } } := by
    rw [Lane.measure, List.modify_eq_set_getElem?, hw]
    rfl
  have measured : (s.setLane c ((s.cam c).lane.measure j d)).count (.ofCam c .edges) = m := by
    rw [lane, hm]
    rfl
  have phaser : (m.cam c).phaser = (s.cam c).phaser := by
    rw [hm, State.cam, PerCam.get_set_self]
  have live : m.enabled c = true := by rw [State.enabled, phaser]; exact he
  have measure : s.measure c j w.base a = m.measurementEvent c j d := by
    rw [← measured, ← hd]
    rfl
  rw [measure, State.measurementEvent, State.updatePoint_of_enabled live, phaser]
  by_cases hj : j = 0
  · simp [hj]
  · simp [hj]

theorem State.classify_of_window {s : State} {c : Cam} {a j : Nat} {w : Window}
    (hj : windowAt (s.cam c).lane.windows a = some j) (hw : (s.cam c).lane.windows[j]? = some w) :
    s.classify c a = if w.hit = true then s.count (.ofCam c .stray) else s.measure c j w.base a := by
  unfold State.classify
  dsimp only
  rw [hj]
  dsimp only
  rw [hw]

theorem State.classify_of_none {s : State} {c : Cam} {a : Nat} (h : windowAt (s.cam c).lane.windows a = none) :
    s.classify c a =
      if c = s.items.global.referenceCam ∧ (windowAt (s.cam c).lane.windows (shifted a)).isSome = true then
        (s.count (.ofCam c .stray)).count (.ofCam c .halfMismatch)
      else s.count (.ofCam c .stray) := by
  unfold State.classify
  dsimp only
  rw [h]

/-! ### Edges in ENGINE_SYNC -/

/-- The tracker's report and the lane's classification of an edge (R18, R28). -/
theorem State.engineEdge_eq {s : State} {k : Tooth} {y : Cycle} (hs : s.tracker.sync = .engineSync k y) {c : Cam}
    {t a : Nat} (ha : a = edgeAngle s.items.global (s.cam c).lane.windows k y t) {report : EdgeReport}
    (hr : edgeReport (s.cam c).lane.windows a = report) :
    s.engineEdge k y c t =
      (s.setTracker (.engineSync k (if c = s.items.global.referenceCam then y.note report else y))
        s.tracker.speed).classify c a := by
  unfold State.engineEdge
  dsimp only
  rw [← ha, hr]
  split
  · rfl
  · rw [State.setTracker, ← hs]

theorem exec_camEdge_of_engineSync {s : State} {c : Cam} {t a : Nat} {k : Tooth} {y : Cycle} (ht : s.now ≤ t)
    (he : s.enabled c = true) (hs : s.tracker.sync = .engineSync k y)
    (ha : a = edgeAngle s.items.global (s.cam c).lane.windows k y t) {report : EdgeReport}
    (hr : edgeReport (s.cam c).lane.windows a = report) :
    exec (.camEdge c (s.cfg c).edge t) s =
      .next (({ s with
        now := t
        tracker := ⟨.engineSync k (if c = s.items.global.referenceCam then y.note report else y),
          s.tracker.speed⟩ } : State).classify c a) := by
  rw [exec_camEdge_eq ht, if_pos ⟨he, rfl⟩, State.camEdge]
  simp only [hs]
  exact congrArg Host.Outcome.next (State.engineEdge_eq (s := { s with now := t }) hs ha hr)

/-- Settles O19: an edge's report and its classification make the same tests of the windows. -/
theorem strayEdgesAreCounted : Obligations.StrayEdgesAreCounted := by
  rintro c t a s k y stray ht he hs ha rfl
  refine ⟨fun j w hj hw hit => ?_, fun outside => ?_⟩
  · have report : edgeReport (s.cam c).lane.windows a = .inWindow := by rw [edgeReport, hj]; rfl
    rw [exec_camEdge_of_engineSync ht he hs ha report]
    exact congrArg Host.Outcome.next
      (Eq.trans (State.classify_of_window (s := { s with now := t, tracker := _ }) hj hw) (if_pos hit))
  · have other : (Counter.ofCam c .halfMismatch) ≠ .ofCam c .stray := nofun
    have same : (⟨.engineSync k y, s.tracker.speed⟩ : Tracker) = s.tracker := by rw [← hs]
    by_cases both : c = s.items.global.referenceCam ∧
        (windowAt (s.cam c).lane.windows ((a + 5760) % 11520)).isSome = true
    · have report : edgeReport (s.cam c).lane.windows a = .halfMismatch := by
        rw [edgeReport, outside, shifted, both.2]; rfl
      rw [exec_camEdge_of_engineSync ht he hs ha report, if_pos both.1, if_pos both]
      refine congrArg Host.Outcome.next
        (Eq.trans (State.classify_of_none (s := { s with now := t, tracker := _ }) outside)
          (Eq.trans (if_pos both) ?_))
      simp only [State.count, Counters.get_put_ne _ other]
      rfl
    · have noted : (if c = s.items.global.referenceCam then y.note (edgeReport (s.cam c).lane.windows a) else y) =
          y := by
        by_cases hc : c = s.items.global.referenceCam
        · rw [if_pos hc, edgeReport, outside, if_neg (by nofun), shifted, if_neg fun h => both ⟨hc, h⟩]
          rfl
        · exact if_neg hc
      rw [exec_camEdge_of_engineSync ht he hs ha rfl, noted, same, if_neg both]
      exact congrArg Host.Outcome.next
        (Eq.trans (State.classify_of_none (s := { s with now := t, tracker := _ }) outside) (if_neg both))

theorem edgeAngle_of_closing {g : GlobalItems} {ws : List Window} {k : Tooth} {y : Cycle} {t : Nat}
    (h : k.lastTooth < t ∧ ∃ w ∈ ws, w.contains (clockAt g k 11520 (t - 1)) = true ∧ w.passed = false ∧
      angleSub y.coveredFrom k.angle ≤ angleSub (clockAt g k 11520 t) k.angle ∧
      covers y.coveredFrom (clockAt g k 11520 t) w.closeAngle = true) :
    edgeAngle g ws k y t = clockAt g k 11520 (t - 1) := by
  obtain ⟨after, w, hw, holds, fresh, forward, covered⟩ := h
  refine if_pos ⟨after, List.any_eq_true.2 ⟨w, hw, ?_⟩⟩
  rw [holds, fresh, interpolates, covered, decide_eq_true forward]
  rfl

theorem edgeAngle_of_not_closing {g : GlobalItems} {ws : List Window} {k : Tooth} {y : Cycle} {t : Nat}
    (h : ¬ (k.lastTooth < t ∧ ∃ w ∈ ws, w.contains (clockAt g k 11520 (t - 1)) = true ∧ w.passed = false ∧
      angleSub y.coveredFrom k.angle ≤ angleSub (clockAt g k 11520 t) k.angle ∧
      covers y.coveredFrom (clockAt g k 11520 t) w.closeAngle = true)) :
    edgeAngle g ws k y t = clockAt g k 11520 t := by
  refine if_neg fun ⟨after, closing⟩ => h ⟨after, ?_⟩
  obtain ⟨w, hw, test⟩ := List.any_eq_true.1 closing
  simp only [interpolates, Bool.and_eq_true, Bool.not_eq_true', decide_eq_true_eq] at test
  obtain ⟨⟨holds, fresh⟩, forward, covered⟩ := test
  exact ⟨w, hw, holds, fresh, forward, covered⟩

theorem displacement_eq (k : CamItems) (offset : Int) (base a : Nat) :
    displacement k offset base a =
      (match k.direction with | .advance => 1 | .retard => -1) * Machine.norm ((base : Int) - (a : Int)) -
        offset := by
  unfold displacement
  cases k.direction <;> rfl

/-- Settles O18: `edgeAngle` makes the test stated, and the edge's measurement is `State.measure_eq`. -/
theorem edgeIsMeasured : Obligations.EdgeIsMeasured := by
  refine ⟨?_, ?_⟩
  · rintro g ws k y t old new closes rfl rfl hcloses
    refine ⟨fun h => ?_, fun h => edgeAngle_of_not_closing (mt hcloses.2 h)⟩
    have closing := hcloses.1 h
    have angle := edgeAngle_of_closing closing
    obtain ⟨-, w, hw, holds, -⟩ := closing
    refine ⟨angle, ?_⟩
    rw [angle, windowAt, List.findIdx?_isSome, List.any_eq_true]
    exact ⟨w, hw, holds⟩
  · intro c t a j s m k y w d ht he hs ha hj hw hit hd hm
    have report : edgeReport (s.cam c).lane.windows a = .inWindow := by rw [edgeReport, hj]; rfl
    rw [exec_camEdge_of_engineSync ht he hs ha report]
    refine congrArg Host.Outcome.next (Eq.trans (State.classify_of_window (s := { s with now := t, tracker := _ }) hj hw) ?_)
    rw [if_neg (by rw [hit]; nofun)]
    have displaced := (displacement_eq (s.cfg c) (s.cam c).lane.offset w.base a).trans hd.symm
    exact State.measure_eq (s := { s with now := t, tracker := _ }) he hw displaced hm

/-! ### A close by interpolation -/

theorem State.interpolatedClose_of_open {s : State} {c : Cam} {j t : Nat} {k : Tooth} {y : Cycle} {w : Window}
    (hs : s.tracker.sync = .engineSync k y) (he : s.enabled c = true)
    (hw : (s.cam c).lane.windows[j]? = some w) (fresh : w.passed = false) :
    s.interpolatedClose c j t =
      if angleSub y.coveredFrom k.angle ≤ angleSub (clockAt s.items.global k 11520 t) k.angle ∧
          covers y.coveredFrom (clockAt s.items.global k 11520 t) w.closeAngle = true then s.closeWindow c j
      else s := by
  unfold State.interpolatedClose State.closeBy
  rw [hs]
  dsimp only
  rw [hw]
  simp only [he, fresh, Bool.not_false, Bool.true_and, ite_and]

theorem State.closeWindow_of_window {s : State} {c : Cam} {j : Nat} {w : Window} {l : Lane}
    (hw : (s.cam c).lane.windows[j]? = some w)
    (hl : l = { (s.cam c).lane with
      windows := (s.cam c).lane.windows.set j { w with hit := false, late := false, passed := true } }) :
    s.closeWindow c j =
      if w.hit = true ∨ w.late = true then s.setLane c l else (s.setLane c l).miss c := by
  have passed : (s.cam c).lane.windows.modify j Window.nextPass =
      (s.cam c).lane.windows.set j { w with hit := false, late := false, passed := true } := by
    rw [List.modify_eq_set_getElem?, hw]
    rfl
  unfold State.closeWindow
  dsimp only
  rw [hw]
  dsimp only
  rw [passed, ← hl]
  simp only [Bool.or_eq_true]

theorem State.enabled_of_set {s u : State} {c : Cam} {k : CamState} (he : s.enabled c = true)
    (hk : k.phaser.state = (s.cam c).phaser.state) (hu : u.cams = s.cams.set c k) : u.enabled c = true := by
  rw [State.enabled, State.cam, hu, PerCam.get_set_self, hk]
  exact he

/-- A miss of a cam whose lane has just been set to `l` (R36, R37). -/
theorem State.miss_setLane (s : State) (c : Cam) (l : Lane) :
    (s.setLane c l).miss c =
      let counted : Counters := s.counters.put (.ofCam c .missed)
        (counterNext s.items.global.counterWrap (s.counters.get (.ofCam c .missed)))
      if l.missRun < (s.cfg c).missLimit then
        if l.missRun + 1 = (s.cfg c).missLimit then
          ({ s with
            counters := counted
            cams := s.cams.set c { s.cam c with lane := { l with
              missRun := l.missRun + 1, valid := false } } } : State).reportFault c .signal
        else { s with
          counters := counted
          cams := s.cams.set c { s.cam c with lane := { l with missRun := l.missRun + 1 } } }
      else { s with counters := counted, cams := s.cams.set c { s.cam c with lane := l } } := by
  unfold State.miss
  simp [State.count, State.setLane, State.setCam, State.cam, State.cfg] <;> rfl

/-- Settles O22: the close is taken once the clock has passed the close angle, and R36 and R37 are the case split
of its pass. -/
theorem windowCloseTestsThePass : Obligations.WindowCloseTestsThePass := by
  rintro c j t new s k y w l ht hs he hw fresh rfl hl
  have close := State.interpolatedClose_of_open (s := { s with now := t }) (t := t) hs he hw fresh
  have pass := State.closeWindow_of_window (s := { s with now := t }) hw hl
  have run : l.missRun = (s.cam c).lane.missRun := by rw [hl]
  rw [exec_windowClose_eq ht, close]
  refine ⟨fun uncovered => ?_, fun covered forward => ?_⟩
  · exact congrArg Host.Outcome.next (if_neg fun h => by rw [uncovered] at h; cases h.2)
  · rw [if_pos ⟨forward, covered⟩, pass]
    refine ⟨fun kept => by rw [if_pos kept]; rfl, fun hit late short => ?_, fun hit late full => ?_⟩
    · have missed : ¬ (w.hit = true ∨ w.late = true) := by rw [hit, late]; nofun
      rw [← run] at short
      rw [if_neg missed]
      refine congrArg Host.Outcome.next (Eq.trans (State.miss_setLane _ c l) ?_)
      by_cases below : l.missRun < (s.cfg c).missLimit
      · refine (if_pos below).trans ((if_neg short).trans ?_)
        rw [if_pos below]
        rfl
      · refine (if_neg below).trans ?_
        rw [if_neg below]
        rfl
    · have missed : ¬ (w.hit = true ∨ w.late = true) := by rw [hit, late]; nofun
      rw [← run] at full
      have below : l.missRun < (s.cfg c).missLimit := by omega
      rw [if_neg missed]
      refine congrArg Host.Outcome.next
        (Eq.trans (State.miss_setLane _ c l) ((if_pos below).trans ((if_pos full).trans ?_)))
      rw [full, State.reportFault_eq]
      · rfl
      · exact State.enabled_of_set (k := { s.cam c with lane :=
          { l with missRun := (s.cfg c).missLimit, valid := false } }) he rfl rfl

end Sys2Proof.Machine

/-! ## The resolving edge (R15, R16, R30, R35) -/

namespace Sys2Proof.Machine

theorem State.gainLanes_eq (s : State) (a : Nat) : s.gainLanes a = { s with cams := (s.gainLanes a).cams } :=
  State.eachCam_keeps (P := fun u => u = { s with cams := u.cams }) (fun c u hu => by
    split
    · rw [hu]; rfl
    · exact hu) rfl

theorem State.gainLanes_cam (s : State) (a : Nat) (c : Cam) :
    (s.gainLanes a).cam c =
      if s.enabled c = true then { s.cam c with lane := (s.cam c).lane.gain a } else s.cam c :=
  State.eachCam_cam
    (g := fun _ k => if decide (k.phaser.state ≠ .disabled) = true then { k with lane := k.lane.gain a } else k)
    (fun c u => u.gainLane_localTo a c)
    (fun c u _ => by
      rw [State.enabled]
      split
      · exact u.setLane_cam_self c _
      · rfl) c

/-- The gain's marks leave every window's range as it is. -/
theorem Lane.gain_windowAt (l : Lane) (a b : Nat) : windowAt (l.gain a).windows b = windowAt l.windows b := by
  rw [windowAt, windowAt, Lane.gain, Lane.eachWindow, List.findIdx?_map]
  rfl

theorem Lane.gain_getElem? {l : Lane} {j : Nat} {w : Window} (hw : l.windows[j]? = some w) (a : Nat) :
    (l.gain a).windows[j]? = some { w with late := w.contains a, passed := false } := by
  rw [Lane.gain, Lane.eachWindow, List.getElem?_map, hw]
  rfl

theorem contains_of_windowAt {ws : List Window} {a j : Nat} {w : Window} (hj : windowAt ws a = some j)
    (hw : ws[j]? = some w) : w.contains a = true := by
  obtain ⟨hlt, holds, -⟩ := List.findIdx?_eq_some_iff_getElem.1 hj
  rw [List.getElem?_eq_getElem hlt] at hw
  exact Option.some.inj hw ▸ holds

/-- A resolving edge is measured where the gain of ENGINE_SYNC leaves the lanes (R16, R30). -/
theorem State.gainSync_eq {s : State} {k : Tooth} {c : Cam} {half : Half} {angle j : Nat} {w : Window} {d : Int}
    {gained : List Window → List Window} {cams : PerCam CamState} {m : State} (he : s.enabled c = true)
    (hj : windowAt (s.cam c).lane.windows angle = some j) (hw : (s.cam c).lane.windows[j]? = some w)
    (hit : w.hit = false) (hd : d = displacement (s.cfg c) (s.cam c).lane.offset w.base angle)
    (hgained : gained = List.map (fun v => { v with late := v.contains angle, passed := false }))
    (hcams : ∀ b : Cam, cams.get b =
      if b = c then
        { s.cam c with lane :=
          { (s.cam c).lane with
            d := d, dWindow := j, valid := true, missRun := 0
            windows := (gained (s.cam c).lane.windows).set j
              { w with hit := true, late := true, passed := false } } }
      else if s.enabled b = true then
        { s.cam b with lane := { (s.cam b).lane with windows := gained (s.cam b).lane.windows } }
      else s.cam b)
    (hm : m = { s with
      tracker := ⟨.engineSync { k with angle := half.angle + k.angle }
        { half := half, coveredFrom := angle, refHit := true, mismatch := false, mismatchRun := 0 },
        s.tracker.speed⟩
      notices := s.notices ||| 0x0002#16
      counters := s.counters.put (.ofCam c .edges)
        (counterNext s.items.global.counterWrap (s.counters.get (.ofCam c .edges)))
      cams := cams }) :
    s.gainSync k c half angle =
      (if j = 0 ∧ (s.cam c).phaser.state ≠ .fault then m.arbitrate c else m).takeEvent c j d := by
  let u := (s.setTracker
    (.engineSync { k with angle := half.angle + k.angle }
      { half := half, coveredFrom := angle, refHit := true, mismatch := false, mismatchRun := 0 })
    s.tracker.speed).notify .engineSynced
  have ucam : ∀ b, (u.gainLanes angle).cam b = if s.enabled b = true then
      { s.cam b with lane := (s.cam b).lane.gain angle } else s.cam b := u.gainLanes_cam angle
  have own := ucam c
  rw [if_pos he] at own
  have ownWindow : ((u.gainLanes angle).cam c).lane.windows[j]? =
      some { w with late := true, passed := false } := by
    rw [own, Lane.gain_getElem? hw, contains_of_windowAt hj hw]
  have ownAt : windowAt ((u.gainLanes angle).cam c).lane.windows angle = some j := by
    rw [own]
    exact (Lane.gain_windowAt _ _ _).trans hj
  have enabled : (u.gainLanes angle).enabled c = true := by rw [State.enabled, own]; exact he
  have phaser : ((u.gainLanes angle).cam c).phaser = (s.cam c).phaser := by rw [own]
  have set : (u.gainLanes angle).cams.set c { (u.gainLanes angle).cam c with lane :=
      { ((u.gainLanes angle).cam c).lane with
        d := d, dWindow := j, valid := true, missRun := 0
        windows := ((u.gainLanes angle).cam c).lane.windows.set j
          { w with hit := true, late := true, passed := false } } } = cams := by
    refine PerCam.ext_get fun b => ?_
    rw [PerCam.get_set, hcams b, own, hgained]
    by_cases hb : b = c
    · rw [if_pos hb, if_pos hb]
      rfl
    · rw [if_neg hb, if_neg hb]
      exact ucam b
  have displaced : displacement ((u.gainLanes angle).cfg c) ((u.gainLanes angle).cam c).lane.offset w.base angle =
      d := by
    rw [own, (u.gainLanes_camsMove angle).cfg]
    exact hd.symm
  have gained : s.gainSync k c half angle = (u.gainLanes angle).classify c angle := rfl
  rw [gained, State.classify_of_window ownAt ownWindow, if_neg (by dsimp only; rw [hit]; nofun)]
  refine (State.measure_eq enabled ownWindow displaced (m := m) ?_).trans (by rw [phaser])
  obtain ⟨others, frame⟩ : ∃ x, u.gainLanes angle = { u with cams := x } := ⟨_, u.gainLanes_eq angle⟩
  rw [frame] at set ⊢
  rw [hm, ← set]
  rfl

/-- Settles O17: the three cases of R15, the one gain of them given whole by `State.gainSync_eq`. -/
theorem referenceEdgeResolvesPhase : Obligations.ReferenceEdgeResolvesPhase := by
  intro c t a s k ht he hc hs ha
  have resolve : exec (.camEdge c (s.cfg c).edge t) s = ({ s with now := t } : State).resolve k c t := by
    rw [exec_camEdge_eq ht, if_pos ⟨he, rfl⟩, State.camEdge]
    simp only [hs]
    exact if_pos hc
  have cases : ({ s with now := t } : State).resolve k c t =
      match (windowAt (s.cam c).lane.windows a).isSome, (windowAt (s.cam c).lane.windows (a + 5760)).isSome with
      | true, false => .next (({ s with now := t } : State).gainSync k c .first a)
      | false, true => .next (({ s with now := t } : State).gainSync k c .second (a + 5760))
      | false, false => .next (({ s with now := t } : State).count (.ofCam c .stray))
      | true, true => .fault .ambiguousHalf := by
    rw [ha]
    unfold State.resolve
    rfl
  rw [resolve, cases]
  refine ⟨fun first second => ?_, fun half angle j w which hj hw hit d gained cams m hd hgained hcams hm => ?_⟩
  · rw [first, second]
    rfl
  · have gain := State.gainSync_eq (s := { s with now := t }) (k := k) (half := half) (m := m) he hj hw hit hd hgained
      hcams (by cases half <;> exact hm)
    rcases which with ⟨rfl, rfl, other⟩ | ⟨rfl, rfl, other⟩
    · rw [hj, other]
      exact congrArg Host.Outcome.next gain
    · rw [hj, other]
      exact congrArg Host.Outcome.next gain

end Sys2Proof.Machine

/-! ## A loss of ENGINE_SYNC (R21, R41, R88, R105) -/

namespace Sys2Proof.Machine

/-- A sound cam out of ENGINE_SYNC rests (R41, R88, R93, R105, R116). -/
theorem Sound.rests_out_of_sync {s : State} (hs : Sound s) (out : s.tracker.sync.isEngine = false) (c : Cam) :
    (s.cam c).lane.valid = false ∧ (s.cam c).lane.missRun = 0 ∧
    (∀ w ∈ (s.cam c).lane.windows, w.hit = false ∧ w.late = false) ∧
    (s.cam c).arbiter.target = 0 ∧ (s.cam c).arbiter.winner = .none ∧
    (s.cam c).phaser.learning = false ∧
    (s.cam c).phaser.state ≠ .releasing ∧ (s.cam c).phaser.state ≠ .tracking ∧
    (s.cam c).channel.command = 0 ∧ (s.cam c).loop = ⟨0, 0⟩ := by
  have engine : ∀ {p : Prop}, s.tracker.sync.isEngine = true → p := fun h => by rw [out] at h; cases h
  obtain ⟨-, -, valid, -, -, flags, -⟩ := (hs.cams c).lane
  obtain ⟨-, -, cleared, -⟩ := (hs.cams c).arbiter
  obtain ⟨-, -, -, -, moving, learn, -⟩ := (hs.cams c).sequencer
  have notReleasing : (s.cam c).phaser.state ≠ .releasing := fun h => engine (moving (.inl h))
  have notTracking : (s.cam c).phaser.state ≠ .tracking := fun h => engine (moving (.inr h))
  have rest := cleared (.inr out)
  exact ⟨Bool.eq_false_iff.2 fun h => engine (valid h).1, (flags out).1, (flags out).2,
    by rw [rest]; rfl, by rw [rest]; rfl, Bool.eq_false_iff.2 fun h => engine (learn h).2.1,
    notReleasing, notTracking, (hs.cams c).command.2.2 notReleasing notTracking,
    (hs.cams c).loop.2.2 notTracking⟩

/-- Settles O15: the step leads to a sound state (`Sound.exec`), and out of ENGINE_SYNC one rests. -/
theorem syncLossParksEveryCam : Obligations.SyncLossParksEveryCam := by
  intro i s u hs next _ out
  have after : Sound u := hs.exec next
  exact ⟨fun c _ => after.rests_out_of_sync out c, fun x hx r hr c => after.outcomes x hx r hr c (.inl out)⟩

end Sys2Proof.Machine

/-! ## Arbitration (R72 to R86) -/

namespace Sys2Proof.Machine

/-! ### The entry of highest priority -/

theorem highest_eq_none {es : List Entry} : highest es = none ↔ es = [] := by
  cases es with
  | nil => simp [highest]
  | cons x rest =>
    simp only [highest, reduceCtorEq, iff_false]
    split
    · nofun
    · split <;> nofun

/-- Over a list in ascending slot order the highest entry outranks each other, or ties with it from a lower slot
(R77, R82). -/
theorem highest_spec {es : List Entry} (hsorted : es.Pairwise (fun a b => a.slot < b.slot)) {w : Entry}
    (h : highest es = some w) :
    w ∈ es ∧ ∀ e ∈ es, e.record.rank < w.record.rank ∨ (e.record.rank = w.record.rank ∧ w.slot ≤ e.slot) := by
  induction es generalizing w with
  | nil => cases h
  | cons x rest ih =>
    obtain ⟨before, sorted⟩ := List.pairwise_cons.1 hsorted
    simp only [highest] at h
    split at h
    next hnone =>
      obtain rfl := Option.some.inj h
      rw [highest_eq_none.1 hnone]
      simp
    next y hy =>
      obtain ⟨hmem, hmax⟩ := ih sorted hy
      have slots := before y hmem
      split at h
      next outranked =>
        obtain rfl := Option.some.inj h
        refine ⟨List.mem_cons_of_mem _ hmem, fun e he => ?_⟩
        rcases List.mem_cons.1 he with rfl | he
        · exact .inl outranked
        · exact hmax e he
      next ahead =>
        obtain rfl := Option.some.inj h
        refine ⟨List.mem_cons_self .., fun e he => ?_⟩
        rcases List.mem_cons.1 he with rfl | he
        · exact .inr ⟨rfl, le_rfl⟩
        · have := hmax e he
          have := before e he
          omega

theorem applicable_sorted (speed : Nat) (c : Cam) (t : List Slot) :
    (applicable speed (naming c t)).Pairwise (fun a b => a.slot < b.slot) :=
  ((entries_sorted t).filter _).filter _

theorem mem_ofClass {k : Class} {es : List Entry} {e : Entry} : e ∈ ofClass k es ↔ e ∈ es ∧ e.record.cls = k := by
  simp [ofClass]

theorem ofClass_eq_nil {k : Class} {es : List Entry} : ofClass k es = [] ↔ ∀ e ∈ es, e.record.cls ≠ k := by
  simp [ofClass]

/-! ### The base -/

section Base

variable {x : CamItems} {es : List Entry}

theorem plan_override : (plan x es).override = highest (ofClass .override es) := rfl

theorem plan_base_of_override {w : Entry} (h : (plan x es).override = some w) :
    (plan x es).base = w.record.first := by
  rw [plan_override] at h
  simp only [plan, h]

theorem plan_base_of_none (h : (plan x es).override = none) :
    (plan x es).base =
      if (ofClass .blend es).isEmpty = true then x.defaultTarget else blendMean (ofClass .blend es) := by
  rw [plan_override] at h
  simp only [plan, h]

theorem plan_override_spec (hsorted : es.Pairwise (fun a b => a.slot < b.slot)) {w : Entry}
    (h : (plan x es).override = some w) :
    w ∈ es ∧ w.record.cls = .override ∧ ∀ e ∈ es, e.record.cls = .override →
      e.record.rank < w.record.rank ∨ (e.record.rank = w.record.rank ∧ w.slot ≤ e.slot) := by
  obtain ⟨hmem, hmax⟩ := highest_spec (hsorted.filter _) h
  obtain ⟨hw, hcls⟩ := mem_ofClass.1 hmem
  exact ⟨hw, hcls, fun e he hcls => hmax e (mem_ofClass.2 ⟨he, hcls⟩)⟩

end Base

theorem Plan.winner_of_override {p : Plan} {w : Entry} (h : p.override = some w) :
    p.winner = .handle (32 * w.generation + w.slot) := by
  rw [Plan.winner, h]
  rfl

/-- Settles O35: the winning override is the highest of its class (`highest_spec`), and R78 and R79 are the two cases
without one. -/
theorem highestOverrideWins : Obligations.HighestOverrideWins := by
  rintro x speed c t es rfl
  have sorted := applicable_sorted speed c t
  generalize applicable speed (naming c t) = es at sorted ⊢
  refine ⟨fun w hw => ?_, fun hnone => ⟨?_, fun hblend => ?_, fun hblend => ?_⟩⟩
  · obtain ⟨hmem, hcls, hmax⟩ := plan_override_spec sorted hw
    refine ⟨hmem, hcls, plan_base_of_override hw, Plan.winner_of_override hw, ?_, hmax⟩
    rw [Plan.contributors, hw]
    rfl
  · exact ofClass_eq_nil.1 (highest_eq_none.1 hnone)
  · obtain ⟨e, he, hcls⟩ := hblend
    have some : (ofClass .blend es).isEmpty = false :=
      List.isEmpty_eq_false_iff_exists_mem.2 ⟨e, mem_ofClass.2 ⟨he, hcls⟩⟩
    have blends : (plan x es).blends = ofClass .blend es := rfl
    refine ⟨?_, ?_, ?_⟩
    · rw [Plan.winner, hnone]
      dsimp only
      rw [blends, some]
      rfl
    · rw [plan_base_of_none hnone, some]
      rfl
    · rw [Plan.contributors, hnone, blends, List.countP_eq_length_filter]
      rfl
  · have none_ : ofClass .blend es = [] := ofClass_eq_nil.2 hblend
    have blends : (plan x es).blends = [] := none_
    refine ⟨?_, ?_, ?_⟩
    · rw [Plan.winner, hnone]
      dsimp only
      rw [blends]
      rfl
    · rw [plan_base_of_none hnone, none_]
      rfl
    · rw [Plan.contributors, hnone, blends]
      rfl

/-! ### The limits -/

theorem le_foldl_max (es : List Entry) (n : Nat) :
    n ≤ es.foldl (fun m x => max m x.record.first) n ∧
    (∀ e ∈ es, e.record.first ≤ es.foldl (fun m x => max m x.record.first) n) ∧
    (es.foldl (fun m x => max m x.record.first) n = n ∨
      ∃ e ∈ es, e.record.first = es.foldl (fun m x => max m x.record.first) n) := by
  induction es generalizing n with
  | nil => simp
  | cons x rest ih =>
    obtain ⟨hn, hall, hex⟩ := ih (max n x.record.first)
    simp only [List.foldl_cons, List.mem_cons, forall_eq_or_imp, exists_eq_or_imp]
    refine ⟨by omega, ⟨by omega, hall⟩, ?_⟩
    rcases hex with hex | hex
    · rw [hex]; omega
    · exact .inr (.inr hex)

theorem foldl_min_le (es : List Entry) (n : Nat) :
    es.foldl (fun m x => min m x.record.second) n ≤ n ∧
    (∀ e ∈ es, es.foldl (fun m x => min m x.record.second) n ≤ e.record.second) ∧
    (es.foldl (fun m x => min m x.record.second) n = n ∨
      ∃ e ∈ es, e.record.second = es.foldl (fun m x => min m x.record.second) n) := by
  induction es generalizing n with
  | nil => simp
  | cons x rest ih =>
    obtain ⟨hn, hall, hex⟩ := ih (min n x.record.second)
    simp only [List.foldl_cons, List.mem_cons, forall_eq_or_imp, exists_eq_or_imp]
    refine ⟨by omega, ⟨by omega, hall⟩, ?_⟩
    rcases hex with hex | hex
    · rw [hex]; omega
    · exact .inr (.inr hex)

theorem greatestFloor_spec {es : List Entry} (h : es ≠ []) :
    (∃ e ∈ es, e.record.first = greatestFloor es) ∧ ∀ e ∈ es, e.record.first ≤ greatestFloor es := by
  obtain ⟨-, hall, hex⟩ := le_foldl_max es 0
  refine ⟨hex.elim (fun zero => ?_) id, hall⟩
  obtain ⟨e, he⟩ := List.exists_mem_of_ne_nil es h
  have := hall e he
  exact ⟨e, he, by change _ = es.foldl _ 0; omega⟩

theorem leastCeiling_spec {es : List Entry} (h : es ≠ []) :
    (∃ e ∈ es, e.record.second = leastCeiling es) ∧ ∀ e ∈ es, leastCeiling es ≤ e.record.second := by
  cases es with
  | nil => exact absurd rfl h
  | cons x rest =>
    obtain ⟨hx, hall, hex⟩ := foldl_min_le rest x.record.second
    simp only [leastCeiling, List.mem_cons, forall_eq_or_imp, exists_eq_or_imp]
    exact ⟨hex.imp Eq.symm id, hx, hall⟩

/-- Limits conflict exactly where one's ceiling lies below another's floor (R82). -/
theorem conflict_iff {es : List Entry} (h : es ≠ []) :
    leastCeiling es < greatestFloor es ↔ ∃ a ∈ es, ∃ b ∈ es, b.record.second < a.record.first := by
  obtain ⟨⟨a, ha, floor⟩, floors⟩ := greatestFloor_spec h
  obtain ⟨⟨b, hb, ceiling⟩, ceilings⟩ := leastCeiling_spec h
  refine ⟨fun hlt => ⟨a, ha, b, hb, by omega⟩, ?_⟩
  rintro ⟨a', ha', b', hb', hlt⟩
  have := floors a' ha'
  have := ceilings b' hb'
  omega

theorem clamp_eq {v lo hi : Nat} (h : lo ≤ hi) : clamp v lo hi = max lo (min v hi) := by
  unfold clamp
  split
  · omega
  · split <;> omega

section Limits

variable {x : CamItems} {es : List Entry}

theorem plan_applied : (plan x es).applied = appliedLimits (plan x es).override (ofClass .limit es) := rfl

theorem plan_target : (plan x es).target = min (plan x es).e1 x.travel := by
  change clamp (plan x es).e1 0 x.travel = _
  rw [clamp_eq (Nat.zero_le _)]
  omega

theorem mem_plan_applied (e : Entry) :
    e ∈ (plan x es).applied ↔
      e ∈ es ∧ e.record.cls = .limit ∧ ∀ w, (plan x es).override = some w → w.record.rank < e.record.rank := by
  rw [plan_applied]
  unfold appliedLimits
  cases (plan x es).override with
  | none => simp [mem_ofClass]
  | some w => simp [mem_ofClass, and_assoc]

theorem plan_used :
    (plan x es).used =
      if greatestFloor (plan x es).applied ≤ leastCeiling (plan x es).applied then none
      else highest (plan x es).applied := rfl

theorem plan_floor :
    (plan x es).floor = match (plan x es).used with
      | some l => l.record.first
      | none => greatestFloor (plan x es).applied := rfl

theorem plan_ceiling :
    (plan x es).ceiling = match (plan x es).used with
      | some l => l.record.second
      | none => leastCeiling (plan x es).applied := rfl

theorem plan_e1 :
    (plan x es).e1 =
      if (plan x es).applied.isEmpty = true then (plan x es).base
      else clamp (plan x es).base (plan x es).floor (plan x es).ceiling := rfl

theorem plan_applied_sorted (hsorted : es.Pairwise (fun a b => a.slot < b.slot)) :
    (plan x es).applied.Pairwise (fun a b => a.slot < b.slot) := by
  rw [plan_applied]
  unfold appliedLimits
  cases (plan x es).override with
  | none => exact hsorted.filter _
  | some w => exact (hsorted.filter _).filter _

/-- A limit is used alone exactly in a conflict (R82). -/
theorem plan_used_isSome_iff :
    (plan x es).used.isSome = true ↔
      ∃ a ∈ (plan x es).applied, ∃ b ∈ (plan x es).applied, b.record.second < a.record.first := by
  rw [plan_used]
  generalize (plan x es).applied = l
  by_cases hl : l = []
  · simp [hl, greatestFloor, leastCeiling]
  · rw [← conflict_iff hl]
    split
    next agree => simp [agree]
    next differ =>
      obtain ⟨w, hw⟩ := Option.ne_none_iff_exists'.1 (mt highest_eq_none.1 hl)
      simp [hw]
      omega

end Limits

/-- Settles O37: the plan's limit stages by cases of the limits applied and of a conflict among them
(`plan_used_isSome_iff`). -/
theorem limitsBoundTheTarget : Obligations.LimitsBoundTheTarget := by
  rintro x speed c t p rfl
  have sorted := applicable_sorted speed c t
  generalize applicable speed (naming c t) = es at sorted ⊢
  refine ⟨plan_target, mem_plan_applied, fun hnone => ?_, fun hsome hused => ?_, fun l hused => ?_⟩
  · have used : (plan x es).used = none := by rw [plan_used, hnone]; rfl
    refine ⟨?_, ?_, ?_, used⟩
    · rw [plan_e1, hnone]; rfl
    · rw [plan_floor, used, hnone]; rfl
    · rw [plan_ceiling, used, hnone]; rfl
  · have floor : (plan x es).floor = greatestFloor (plan x es).applied := by rw [plan_floor, hused]
    have ceiling : (plan x es).ceiling = leastCeiling (plan x es).applied := by rw [plan_ceiling, hused]
    have agree : greatestFloor (plan x es).applied ≤ leastCeiling (plan x es).applied := by
      by_contra differ
      rw [plan_used, if_neg differ] at hused
      exact hsome (highest_eq_none.1 hused)
    obtain ⟨hfloor, hfloors⟩ := greatestFloor_spec hsome
    obtain ⟨hceiling, hceilings⟩ := leastCeiling_spec hsome
    rw [← floor] at hfloor hfloors agree
    rw [← ceiling] at hceiling hceilings agree
    refine ⟨hfloor, hfloors, hceiling, hceilings, agree, ?_⟩
    rw [plan_e1, if_neg (by simpa using hsome), clamp_eq agree]
  · have conflict := plan_used_isSome_iff.1 (by rw [hused]; rfl)
    have floor : (plan x es).floor = l.record.first := by rw [plan_floor, hused]
    have ceiling : (plan x es).ceiling = l.record.second := by rw [plan_ceiling, hused]
    have chosen : highest (plan x es).applied = some l := by
      rw [plan_used] at hused
      split at hused
      · cases hused
      · exact hused
    obtain ⟨hmem, hmax⟩ := highest_spec (plan_applied_sorted sorted) chosen
    refine ⟨hmem, conflict, hmax, floor, ceiling, fun hle => ?_⟩
    rw [plan_e1, if_neg (by simpa using List.ne_nil_of_mem hmem), floor, ceiling, clamp_eq hle]

end Sys2Proof.Machine

/-! ## The result and the standings of an arbitration (R74 to R77, R80 to R86) -/

namespace Sys2Proof.Machine

/-! ### The two kinds of arbitration -/

theorem State.arbitrate_of_suppressed {s : State} {c : Cam}
    (h : suppression s.items.global s.tracker.speed (s.cam c).arbiter.suppressed = true) :
    s.arbitrate c = { s with
      cams := s.cams.set c { s.cam c with arbiter := suppressedResult s.tracker.speed }
      table := mapRecords (fun r => r.write c ⟨.suppressed, false⟩) s.table } :=
  if_pos h

theorem State.arbitrate_of_released {s : State} {c : Cam}
    (h : suppression s.items.global s.tracker.speed (s.cam c).arbiter.suppressed = false) {p : Plan}
    (hp : p = plan (s.cfg c) (applicable s.tracker.speed (naming c s.table))) :
    s.arbitrate c = { s with
      cams := s.cams.set c { s.cam c with arbiter := p.result s.tracker.speed }
      table := mapEntriesFrom (fun i r => r.write c (p.standing s.tracker.speed i r)) 0 s.table
      notices := if p.used.isSome = true then s.notices ||| 0x0040#16 else s.notices } := by
  unfold State.arbitrate
  dsimp only
  rw [if_neg (by rw [h]; nofun), ← hp]
  split <;> rfl

theorem suppression_eq_false {g : GlobalItems} {speed : Nat} {flag : Bool} (h : ¬ speed < g.suppressRpm)
    (hr : g.releaseRpm ≤ speed ∨ flag = false) : suppression g speed flag = false := by
  unfold suppression
  rw [if_neg h]
  split
  · rfl
  next hr' => exact hr.resolve_left hr'

/-! ### The standings -/

theorem Record.appliesAt_iff (r : Record) (speed : Nat) :
    r.appliesAt speed = true ↔ ∀ lo hi, r.band = some (lo, hi) → lo ≤ speed ∧ speed ≤ hi := by
  unfold Record.appliesAt
  cases r.band with
  | none => simp
  | some b => simp only [Option.some.injEq, decide_eq_true_eq]; grind

theorem Plan.standing_of_dormant (p : Plan) {speed : Nat} (i : Nat) {r : Record}
    (h : ∃ lo hi, r.band = some (lo, hi) ∧ ¬ (lo ≤ speed ∧ speed ≤ hi)) :
    p.standing speed i r = ⟨.dormant, false⟩ := by
  obtain ⟨lo, hi, hb, out⟩ := h
  exact if_neg fun applies => out ((r.appliesAt_iff speed).1 applies lo hi hb)

theorem Plan.standing_of_applies (p : Plan) {speed : Nat} (i : Nat) {r : Record}
    (h : ∀ lo hi, r.band = some (lo, hi) → lo ≤ speed ∧ speed ≤ hi) : p.standing speed i r = p.outcome i r :=
  if_pos ((r.appliesAt_iff speed).2 h)

section Outcomes

variable {p : Plan} {i : Nat} {r : Record}

theorem Plan.outcome_of_override (hc : r.cls = .override) :
    p.outcome i r =
      if p.override.any (fun w => decide (w.slot = i)) = true then ⟨.winning, p.clips⟩ else ⟨.shadowed, false⟩ := by
  rw [Plan.outcome, hc]

theorem Plan.outcome_of_blend (hc : r.cls = .blend) :
    p.outcome i r = if p.override.isSome = true then ⟨.shadowed, false⟩ else ⟨.contributing, p.clips⟩ := by
  rw [Plan.outcome, hc]

theorem Plan.outcome_of_limit (hc : r.cls = .limit) : p.outcome i r = p.limitOutcome i r := by
  rw [Plan.outcome, hc]

theorem Plan.limitOutcome_of_outranked (h : ∃ w, p.override = some w ∧ r.rank ≤ w.record.rank) :
    p.limitOutcome i r = ⟨.shadowed, false⟩ := by
  obtain ⟨w, hw, hr⟩ := h
  exact if_pos (by rw [hw, Option.any_some, decide_eq_true hr])

theorem Plan.limitOutcome_of_applied (h : ∀ w, p.override = some w → w.record.rank < r.rank) :
    p.limitOutcome i r =
      match p.used with
      | none => p.judge r
      | some x => if x.slot = i then p.judge r else ⟨.conflicted, false⟩ := by
  have ahead : p.override.any (fun w => decide (r.rank ≤ w.record.rank)) = false := by
    cases hw : p.override with
    | none => rfl
    | some w => exact decide_eq_false (Nat.not_le.2 (h w hw))
  refine Eq.trans (if_neg (by rw [ahead]; nofun)) ?_
  cases p.used <;> rfl

theorem Plan.judge_eq (p : Plan) (r : Record) :
    p.judge r =
      if (p.base < r.first ∧ p.e1 = r.first) ∨ (r.second < p.base ∧ p.e1 = r.second) then ⟨.binding, false⟩
      else ⟨.slack, false⟩ := by
  simp only [Plan.judge, bindsAt, decide_eq_true_eq]
  split <;> rfl

end Outcomes

/-- The clauses of R77 to R82 for a record of slot `i` that applies: `p` is the plan of the table's own entries. -/
theorem Plan.outcome_clauses {x : CamItems} {speed : Nat} {c : Cam} {t : List Slot} {p : Plan}
    (hp : p = plan x (applicable speed (naming c t))) {i generation : Nat} {r : Record}
    (hi : t[i]? = some ⟨generation, some r⟩) :
    (r.cls = .override →
      ((∃ w, p.override = some w ∧ w.slot = i) →
        p.outcome i r = ⟨.winning, decide (p.target ≠ r.first)⟩ ∧ p.winner = .handle (32 * generation + i)) ∧
      ((∀ w, p.override = some w → w.slot ≠ i) → p.outcome i r = ⟨.shadowed, false⟩)) ∧
    (r.cls = .blend →
      (p.override = none → p.outcome i r = ⟨.contributing, decide (p.target ≠ p.base)⟩) ∧
      (p.override ≠ none → p.outcome i r = ⟨.shadowed, false⟩)) ∧
    (r.cls = .limit →
      ((∃ w, p.override = some w ∧ r.rank ≤ w.record.rank) → p.outcome i r = ⟨.shadowed, false⟩) ∧
      ((∀ w, p.override = some w → w.record.rank < r.rank) →
        ((∃ l, p.used = some l ∧ l.slot ≠ i) → p.outcome i r = ⟨.conflicted, false⟩) ∧
        ((∀ l, p.used = some l → l.slot = i) →
          ((p.base < r.first ∧ p.e1 = r.first) ∨ (r.second < p.base ∧ p.e1 = r.second) →
            p.outcome i r = ⟨.binding, false⟩) ∧
          (¬ ((p.base < r.first ∧ p.e1 = r.first) ∨ (r.second < p.base ∧ p.e1 = r.second)) →
            p.outcome i r = ⟨.slack, false⟩)))) := by
  refine ⟨fun hc => ⟨?_, fun other => ?_⟩, fun hc => ⟨fun hnone => ?_, fun hsome => ?_⟩,
    fun hc => ⟨fun outranked => ?_, fun ahead => ⟨?_, fun chosen => ?_⟩⟩⟩
  · rintro ⟨w, hw, rfl⟩
    have own : w.record = r ∧ w.generation = generation := by
      have hmem := (plan_override_spec (applicable_sorted speed c t) (hp ▸ hw)).1
      have entry := (mem_entries t w).1 (List.mem_filter.1 (List.mem_filter.1 hmem).1).1
      rw [entry] at hi
      simp only [Option.some.injEq, Slot.mk.injEq] at hi
      exact ⟨hi.2, hi.1⟩
    have base : p.base = w.record.first := by
      rw [hp]
      exact plan_base_of_override (hp ▸ hw)
    rw [Plan.outcome_of_override hc, if_pos (by rw [hw, Option.any_some, decide_eq_true rfl]), Plan.clips, base,
      Plan.winner_of_override hw, own.1, own.2]
    exact ⟨rfl, rfl⟩
  · refine (Plan.outcome_of_override hc).trans (if_neg ?_)
    cases hw : p.override with
    | none => nofun
    | some w => simpa using other w hw
  · rw [Plan.outcome_of_blend hc, hnone]
    rfl
  · rw [Plan.outcome_of_blend hc, if_pos (Option.isSome_iff_ne_none.2 hsome)]
  · rw [Plan.outcome_of_limit hc, Plan.limitOutcome_of_outranked outranked]
  · rintro ⟨l, hl, other⟩
    rw [Plan.outcome_of_limit hc, Plan.limitOutcome_of_applied ahead, hl]
    exact if_neg other
  · have judged : p.outcome i r = p.judge r := by
      rw [Plan.outcome_of_limit hc, Plan.limitOutcome_of_applied ahead]
      cases hl : p.used with
      | none => rfl
      | some l => exact if_pos (chosen l hl)
    rw [judged, Plan.judge_eq]
    exact ⟨fun binds => if_pos binds, fun slack => if_neg slack⟩

theorem Arbiter.activeSlew_of_cap {a : Arbiter} {cap : Nat} (h : a.slewCap = some cap) (k : CamItems) :
    a.activeSlew k = min k.slew cap := by
  rw [Arbiter.activeSlew, h]

theorem Arbiter.activeSlew_of_none {a : Arbiter} (h : a.slewCap = none) (k : CamItems) : a.activeSlew k = k.slew := by
  rw [Arbiter.activeSlew, h]

/-- Settles O38: the whole result is `State.arbitrate_of_released`'s, and the standings are `Plan.outcome_clauses`. -/
theorem standingsFollowTheClass : Obligations.StandingsFollowTheClass := by
  rintro s u c p hlength rfl hrpm hflag hp
  have arbitrated := State.arbitrate_of_released (suppression_eq_false hrpm hflag) hp
  have result : ((s.arbitrate c).cam c).arbiter = p.result s.tracker.speed := by
    rw [arbitrated, State.cam, PerCam.get_set_self]
  have cfg : (s.arbitrate c).cfg c = s.cfg c := by rw [arbitrated]; rfl
  have conflict := hp ▸ plan_used_isSome_iff (x := s.cfg c) (es := applicable s.tracker.speed (naming c s.table))
  rw [result, cfg]
  refine ⟨rfl, rfl, rfl, rfl, rfl, rfl, rfl, fun cap ⟨w, hw, hcap⟩ => ?_, fun uncapped => ?_, ?_, ?_, fun i x r hi hr => ?_⟩
  · exact Arbiter.activeSlew_of_cap (by rw [Plan.result, hw, Option.bind_some, hcap]) _
  · refine Arbiter.activeSlew_of_none ?_ _
    cases hw : p.override with
    | none => rw [Plan.result, hw]; rfl
    | some w => rw [Plan.result, hw, Option.bind_some, uncapped w hw]
  · rw [arbitrated]
    dsimp only
    by_cases hc : p.used.isSome = true
    · rw [if_pos hc, if_pos (conflict.1 hc)]
    · rw [if_neg hc, if_neg (mt conflict.2 hc)]
  · rw [arbitrated]
    exact (mapEntriesFrom_length ..).trans hlength
  · obtain ⟨generation, record⟩ := x
    obtain rfl : record = some r := hr
    refine ⟨p.standing s.tracker.speed i r, ?_, fun _ => ⟨p.standing_of_dormant i, fun applies => ?_⟩⟩
    · rw [arbitrated, mapEntriesFrom_getElem?, hi, Nat.zero_add]
      rfl
    · rw [p.standing_of_applies i applies]
      exact Plan.outcome_clauses hp hi

/-! ### Suppression -/

/-- Settles O39: the flag is `suppression`'s, and a suppressed arbitration is given whole by
`State.arbitrate_of_suppressed`. -/
theorem lowSpeedSuppresses : Obligations.LowSpeedSuppresses := by
  rintro s u c flag rfl hrpm low high kept
  have hflag : suppression s.items.global s.tracker.speed (s.cam c).arbiter.suppressed = flag := by
    unfold suppression
    split
    next h => exact (low h).symm
    next h =>
      split
      next hr => exact (high hr).symm
      next hr => exact (kept (Nat.not_lt.1 h) (Nat.not_le.1 hr)).symm
  cases flag with
  | true =>
    have arbitrated := State.arbitrate_of_suppressed hflag
    have result : ((s.arbitrate c).cam c).arbiter = suppressedResult s.tracker.speed := by
      rw [arbitrated, State.cam, PerCam.get_set_self]
    have cfg : (s.arbitrate c).cfg c = s.cfg c := by rw [arbitrated]; rfl
    rw [result, cfg]
    refine ⟨rfl, rfl, fun _ => ⟨rfl, rfl, rfl, rfl, rfl, rfl, by rw [arbitrated], fun x hx r hr hc => ?_⟩⟩
    rw [arbitrated] at hx
    obtain ⟨z, -, rfl⟩ := List.mem_map.1 hx
    obtain ⟨r0, -, rfl⟩ := Option.map_eq_some_iff.1 hr
    rw [Record.write] at hc ⊢
    split
    · exact PerCam.get_set_self _ _ _
    next hn => rw [if_neg hn] at hc; exact absurd hc hn
  | false =>
    have arbitrated := State.arbitrate_of_released hflag rfl
    have result : ((s.arbitrate c).cam c).arbiter =
        (plan (s.cfg c) (applicable s.tracker.speed (naming c s.table))).result s.tracker.speed := by
      rw [arbitrated, State.cam, PerCam.get_set_self]
    rw [result]
    exact ⟨rfl, rfl, nofun⟩

end Sys2Proof.Machine

/-! ## CLEAR_FAULT, and the configuration store's requests (R112, R150 to R158) -/

namespace Sys2Proof.Machine

/-! ### Requests at their owners -/

theorem State.serve_inConfig {s : State} {r : Request} {p : List Byte} (hm : s.mode = .config) (hd : s.delivers r p)
    (owner : State → List Byte → Reply) :
    s.serve r (inConfig owner) = (owner s p).state.answered r (owner s p).result (owner s p).payload := by
  rw [State.serve_of_delivers hd, inConfig, if_pos hm]

/-- A refused request of RUN. -/
theorem State.serve_inRun_refused {s : State} {r : Request} {p : List Byte} (hm : s.mode = .run)
    (hd : s.delivers r p) {owner : State → List Byte → Reply} {x : Result} (h : owner s p = refuse s x) :
    s.serve r (inRun owner) = s.answered r x [] := by
  rw [State.serve_inRun hm hd, h]
  rfl

theorem State.serve_inConfig_refused {s : State} {r : Request} {p : List Byte} (hm : s.mode = .config)
    (hd : s.delivers r p) {owner : State → List Byte → Reply} {x : Result} (h : owner s p = refuse s x) :
    s.serve r (inConfig owner) = s.answered r x [] := by
  rw [State.serve_inConfig hm hd, h]
  rfl

theorem State.serve_refused {s : State} {r : Request} {p : List Byte}
    (hd : s.delivers r p) {owner : State → List Byte → Reply} {x : Result} (h : owner s p = refuse s x) :
    s.serve r owner = s.answered r x [] := by
  rw [State.serve_of_delivers hd, h]
  rfl

/-! ### CLEAR_FAULT -/

theorem ownClearFault_of_length {p : List Byte} (s : State) (h : p.length ≠ 1) :
    ownClearFault s p = refuse s .badLength := by
  match p, h with
  | [], _ => rfl
  | [_], h => exact absurd rfl h
  | _ :: _ :: _, _ => rfl

theorem ownClearFault_of_cam {s : State} {b : Byte} {c : Cam} (h : b.toNat = c.index) :
    ownClearFault s [b] =
      if (s.cam c).phaser.state = .fault then grant (s.clearFault c) [] else refuse s .noEffect := by
  unfold ownClearFault
  dsimp only
  rw [camOfIndex_eq_some.2 h]

theorem ParkLine.restState_eq (line : ParkLine) :
    line.restState = if line = .asserted then .forced else .parked := by
  cases line <;> rfl

/-- In a sound state the channel of a cam that commands nothing is OFF, and re-armed it stays as R144 has it. -/
theorem Sound.rearm_of_zero {s : State} (hs : Sound s) {c : Cam} (h0 : (s.cam c).channel.command = 0) :
    (s.cam c).channel.rearm s.parkLine = { (s.cam c).channel with
      command := 0, output := .off, duty := 0, limited := false, latch := .none, openLoadRun := 0 } ∧
    (s.cam c).channel.switchClosed = false ∧ (s.cam c).channel.wholePeriod = false ∧
    (s.cam c).channel.starting = false := by
  obtain ⟨follows, bounded, -⟩ := (channelSound_iff s c).1 (hs.cams c).channel
  have off : (s.cam c).channel.output = .off := by
    cases ho : (s.cam c).channel.output with
    | off => rfl
    | driven => have := (Channel.mayDrive_iff _ _).1 (follows.1 ho); omega
  obtain ⟨closed, duty, limited, run, whole, starting⟩ := bounded.1 off
  refine ⟨?_, closed, whole, starting⟩
  rw [Channel.rearm_of_quiet h0 follows bounded]
  generalize (s.cam c).channel = h at h0 off duty limited run ⊢
  obtain ⟨⟩ := h
  dsimp only at h0 off duty limited run ⊢
  rw [h0, off, duty, limited, run]

/-- Settles O43: the owner's case split, and a cam in FAULT is re-armed by `Sound.rearm_of_zero`. -/
theorem clearFaultReleasesTheCam : Obligations.ClearFaultReleasesTheCam := by
  intro s hs hm
  refine ⟨fun p hd hp => ?_, fun b hd hb => ?_, fun b c hd hb => ⟨fun healthy => ?_, fun faulted => ?_⟩⟩
  · exact congrArg Host.Outcome.next (State.serve_inRun_refused hm hd (ownClearFault_of_length s hp))
  · have owner : ownClearFault s [b] = refuse s .badField := by
      unfold ownClearFault
      dsimp only
      rw [camOfIndex_eq_none.2 hb]
    exact congrArg Host.Outcome.next (State.serve_inRun_refused hm hd owner)
  · have owner := (ownClearFault_of_cam (s := s) hb).trans (if_neg healthy)
    exact congrArg Host.Outcome.next (State.serve_inRun_refused hm hd owner)
  · have owner := (ownClearFault_of_cam (s := s) hb).trans (if_pos faulted)
    have quiet : (s.cam c).channel.command = 0 := (hs.cams c).command.2.2 (by rw [faulted]; nofun) (by rw [faulted]; nofun)
    refine congrArg Host.Outcome.next ((State.serve_inRun hm hd _).trans ?_)
    rw [owner, State.clearFault, (hs.rearm_of_zero quiet).1, ParkLine.restState_eq]
    rfl

/-! ### CONFIG_WRITE and CONFIG_READ -/

theorem ownConfigWrite_of_length {p : List Byte} (s : State) (h : p.length ≠ 4) :
    ownConfigWrite s p = refuse s .badLength := by
  match p, h with
  | [], _ | [_], _ | [_, _], _ | [_, _, _], _ => rfl
  | [_, _, _, _], h => exact absurd rfl h
  | _ :: _ :: _ :: _ :: _ :: _, _ => rfl

theorem ownConfigRead_of_length {p : List Byte} (s : State) (h : p.length ≠ 2) :
    ownConfigRead s p = refuse s .badLength := by
  match p, h with
  | [], _ | [_], _ => rfl
  | [_, _], h => exact absurd rfl h
  | _ :: _ :: _ :: _, _ => rfl

theorem ItemRef.ofBytes_eq_none {item cam : Byte} (h : ∀ i : ItemRef, ¬ i.Names item cam) :
    ItemRef.ofBytes item cam = none :=
  Option.eq_none_iff_forall_ne_some.2 fun i hi => h i ((ItemRef.ofBytes_eq_some item cam i).1 hi)

theorem fromBe16_eq (hi lo : Byte) : fromBe16 hi lo = 256 * hi.toNat + lo.toNat := by
  rw [fromBe16, Nat.mul_comm]

/-- Settles O52: a reference names one item (`ItemRef.ofBytes_eq_some`), and the store reads back what it was
written (`Items.read_write_self`, `Items.read_write_ne`). -/
theorem configWriteReadsBack : Obligations.ConfigWriteReadsBack := by
  intro s item cam hi lo
  rw [← fromBe16_eq]
  refine ⟨fun hm => ⟨fun p hd hp => ?_, fun hd => ⟨fun unnamed => ?_, fun i named => ⟨fun unlawful => ?_,
    fun lawful => ?_⟩⟩⟩, fun p hd hp => ?_, fun hd => ⟨fun unnamed => ?_, fun i named => ?_⟩⟩
  · exact congrArg Host.Outcome.next (State.serve_inConfig_refused hm hd (ownConfigWrite_of_length s hp))
  · have owner : ownConfigWrite s [item, cam, hi, lo] = refuse s .badField := by
      unfold ownConfigWrite
      dsimp only
      rw [ItemRef.ofBytes_eq_none unnamed]
    exact congrArg Host.Outcome.next (State.serve_inConfig_refused hm hd owner)
  · have owner : ownConfigWrite s [item, cam, hi, lo] = refuse s .badField := by
      unfold ownConfigWrite
      dsimp only
      rw [(ItemRef.ofBytes_eq_some item cam i).2 named]
      exact if_neg (by rw [unlawful]; nofun)
    exact congrArg Host.Outcome.next (State.serve_inConfig_refused hm hd owner)
  · have owner : ownConfigWrite s [item, cam, hi, lo] =
        grant { s with items := s.items.write (fromBe16 hi lo) i } [] := by
      unfold ownConfigWrite
      dsimp only
      rw [(ItemRef.ofBytes_eq_some item cam i).2 named]
      exact if_pos lawful
    refine ⟨s.items.write (fromBe16 hi lo) i, ?_, Items.read_write_self lawful, fun j hj => Items.read_write_ne hj⟩
    refine congrArg Host.Outcome.next ((State.serve_inConfig hm hd _).trans ?_)
    rw [owner]
    rfl
  · exact congrArg Host.Outcome.next (State.serve_refused hd (ownConfigRead_of_length s hp))
  · have owner : ownConfigRead s [item, cam] = refuse s .badField := by
      unfold ownConfigRead
      dsimp only
      rw [ItemRef.ofBytes_eq_none unnamed]
    exact congrArg Host.Outcome.next (State.serve_refused hd owner)
  · have owner : ownConfigRead s [item, cam] = grant s (be16 (s.items.read i)) := by
      unfold ownConfigRead
      dsimp only
      rw [(ItemRef.ofBytes_eq_some item cam i).2 named]
    refine congrArg Host.Outcome.next ((State.serve_of_delivers hd _).trans ?_)
    rw [owner]
    rfl

/-! ### COMMIT -/

theorem exec_commit_of_config {s : State} {t : Nat} {p : List Byte} (ht : s.now ≤ t) (hm : s.mode = .config)
    (hd : s.delivers .commit p) {x : Reply} (h : ownCommit t { s with now := t } p = x) :
    exec (.commit t) s = .next (x.state.answered .commit x.result x.payload) := by
  refine congrArg Host.Outcome.next ((State.at_of_le ht _).trans ?_)
  rw [← h]
  exact State.serve_inConfig (s := { s with now := t }) hm hd _

/-- Settles O53: the verdict of COMMIT is that of its checks (`Items.Lawful.validate_eq_none`,
`Items.Lawful.validate_eq_some`), and its effects are `State.commit_eq` and `State.commit_cam`. -/
theorem commitChecksAndEntersRun : Obligations.CommitChecksAndEntersRun := by
  intro s t ht hm lawful
  refine ⟨fun p hd hp => ?_, fun hd => ⟨fun n cam h1 h13 hbefore hn hr => ?_, fun passes => ?_⟩⟩
  · refine exec_commit_of_config ht hm hd (x := refuse _ .badLength) ?_
    cases p with
    | nil => exact absurd rfl hp
    | cons a rest => rfl
  · have refused : ownCommit t { s with now := t } [] =
        ⟨{ s with now := t }, .configInvalid, invalidPayload n cam⟩ := by
      unfold ownCommit
      dsimp only
      rw [lawful.validate_eq_some h1 h13 hbefore hn hr]
    rw [exec_commit_of_config ht hm hd refused]
    cases cam <;> rfl
  · have granted : ownCommit t { s with now := t } [] = grant (({ s with now := t } : State).commit t) [] := by
      unfold ownCommit
      dsimp only
      rw [lawful.validate_eq_none.2 passes]
    refine ⟨(({ s with now := t } : State).commit t).cams, ?_, fun c => ?_⟩
    · rw [exec_commit_of_config ht hm hd granted, grant, State.commit_eq]
    · refine (State.commit_cam { s with now := t } t c).trans ?_
      rw [CamState.commit, Sequencer.commit, Lane.commit, ParkLine.restState_eq]
      rfl

/-! ### REOPEN -/

theorem State.reopen_notices {s : State} (h : ∀ c : Cam, (s.cam c).phaser.learning = false) :
    s.reopen.notices = s.notices := by
  have kept : ∀ (c : Cam) (u : State),
      (u.notices = s.notices ∧ ∀ b, (u.cam b).phaser.learning = false) →
      (u.disableCam c).notices = s.notices ∧ ∀ b, ((u.disableCam c).cam b).phaser.learning = false := by
    rintro c u ⟨notices, idle⟩
    rw [State.disableCam_eq]
    refine ⟨?_, fun b => ?_⟩
    · rw [State.abortNotices, if_neg (by rw [idle c]; nofun)]
      exact notices
    · rw [State.cam, PerCam.get_set]
      split
      · rfl
      · exact idle b
  have all := State.eachCam_keeps (P := fun u => u.notices = s.notices ∧ ∀ b, (u.cam b).phaser.learning = false) kept
    (s := { s with table := purge s.table }) ⟨rfl, h⟩
  exact all.1

/-- A sound cam at rest is disabled by a REOPEN as R158 lists it. -/
theorem Sound.reopened {s : State} (hs : Sound s) (out : s.tracker.sync.isEngine = false) (c : Cam) :
    (s.cam c).reopened s.parkLine =
      { lane := { (s.cam c).lane with windows := [], missRun := 0, offset := 0 }
        arbiter := ⟨0, .none, 0, 0, 2047, none, 0, true⟩
        phaser := { (s.cam c).phaser with
          state := .disabled, causes := ⟨false, false, false, false, false⟩, releaseCount := 0 }
        loop := ⟨0, 0⟩
        channel := ⟨0, .off, 0, false, (s.cam c).channel.mean, false, .none, 0, false, false⟩ } := by
  obtain ⟨-, -, -, -, -, idle, -, still, quiet, -⟩ := hs.rests_out_of_sync out c
  obtain ⟨-, -, -, -, -, -, -, -, -, -, runs⟩ := (hs.cams c).sequencer
  obtain ⟨parkRun, errorRun, eventSeen, allOver⟩ := runs still
  have write : (s.cam c).channel.write s.parkLine 0 = (s.cam c).channel := if_pos quiet.symm
  obtain ⟨rearm, closed, whole, starting⟩ := hs.rearm_of_zero quiet
  have aborted : (s.cam c).phaser.aborted = (s.cam c).phaser := by
    rw [Sequencer.aborted, idle, if_neg (by nofun), ← idle]
  rw [CamState.reopened, write, rearm, aborted]
  dsimp only
  rw [closed, whole, starting]
  generalize (s.cam c).phaser = q at parkRun errorRun eventSeen allOver ⊢
  obtain ⟨⟩ := q
  dsimp only at parkRun errorRun eventSeen allOver ⊢
  rw [parkRun, errorRun, eventSeen, allOver]
  rfl

/-- Settles O54: the tracker in STOPPED, every cam rests, and `State.reopen_eq` with `State.reopen_cam` is the rest. -/
theorem reopenReturnsToConfig : Obligations.ReopenReturnsToConfig := by
  intro s hs hm
  refine ⟨fun p hd hp => ?_, fun hd => ⟨fun moving => ?_, fun stopped => ?_⟩⟩
  · refine congrArg Host.Outcome.next (State.serve_inRun_refused hm hd ?_)
    cases p with
    | nil => exact absurd rfl hp
    | cons a rest => rfl
  · exact congrArg Host.Outcome.next (State.serve_inRun_refused hm hd (if_neg moving))
  · have granted : ownReopen s [] = grant s.reopen [] := if_pos stopped
    have out : s.tracker.sync.isEngine = false := by rw [stopped]; rfl
    have notices := State.reopen_notices fun c => (hs.rests_out_of_sync out c).2.2.2.2.2.1
    refine ⟨s.reopen.cams, ?_, fun c => (s.reopen_cam c).trans (hs.reopened out c)⟩
    refine congrArg Host.Outcome.next ((State.serve_inRun hm hd _).trans ?_)
    rw [granted, grant, State.reopen_eq, notices, purge_eq]

end Sys2Proof.Machine

/-! ## What requests leave as it is (R50, R180) -/

namespace Sys2Proof.Machine

/-- `u` differs from `s` at most in the cams, the table, the counters, the notices, the link, the count of free values
and the release qualification. -/
def Within (s u : State) : Prop :=
  u = { s with
    cams := u.cams, table := u.table, counters := u.counters, notices := u.notices, link := u.link
    fresh := u.fresh, qualification := u.qualification }

theorem Within.refl (s : State) : Within s s := rfl

theorem Within.trans {s u v : State} (h : Within s u) (k : Within u v) : Within s v := by
  unfold Within at *
  rw [k, h]

theorem CamsMove.within {s u : State} (h : CamsMove s u) : Within s u := by
  unfold Within
  rw [h.eq]

/-- What a reply that is not OK leaves of the state, and what it carries (R50, R151, R154, R157, R180). -/
structure Refuses (r : Request) (s : State) (y : Reply) : Prop where
  state : y.result ≠ .ok → y.state = { s with counters := y.state.counters }
  empty : y.result ≠ .ok → y.result ≠ .configInvalid → y.payload = []
  detail : y.result = .configInvalid → y.payload.length = 2
  uncounted : y.result ≠ .ok → y.result ≠ .tableFull → y.state.counters = s.counters
  full : y.result = .tableFull → r = .post ∧ y.state.counters = { s.counters with
    fullRefusals := counterNext s.items.global.counterWrap s.counters.fullRefusals }

/-- A reply that besides, whatever its result, stays within the blocks of `Within`, and keeps the notices, CYCLES and the
learned offsets. -/
structure Tame (r : Request) (s : State) (y : Reply) : Prop extends Refuses r s y where
  within : Within s y.state
  steady : Steady s y.state

variable {r : Request} {s : State}

theorem Refuses.of_ok {y : Reply} (h : y.result = .ok) : Refuses r s y :=
  ⟨fun hn => absurd h hn, fun hn => absurd h hn, fun hc => by (rw [h] at hc; cases hc), fun hn => absurd h hn,
    fun hc => by (rw [h] at hc; cases hc)⟩

theorem Refuses.refuse {x : Result} (hc : x ≠ .configInvalid) (ht : x ≠ .tableFull) : Refuses r s (refuse s x) :=
  ⟨fun _ => rfl, fun _ _ => rfl, fun h => absurd h hc, fun _ _ => rfl, fun h => absurd h ht⟩

theorem Refuses.grant (u : State) (p : List Byte) : Refuses r s (grant u p) := .of_ok rfl

theorem Tame.refuse {x : Result} (hc : x ≠ .configInvalid := by nofun) (ht : x ≠ .tableFull := by nofun) :
    Tame r s (refuse s x) :=
  ⟨.refuse hc ht, .refl s, .refl s⟩

theorem Tame.grant {u : State} {p : List Byte} (hw : Within s u) (hs : Steady s u) : Tame r s (grant u p) :=
  ⟨.grant u p, hw, hs⟩

theorem Tame.grant_same (p : List Byte) : Tame r s (Machine.grant s p) := .grant (.refl s) (.refl s)

theorem Tame.grant_table (t : List Slot) (p : List Byte) : Tame r s (Machine.grant { s with table := t } p) :=
  .grant rfl (s.setTable_steady t)

theorem Tame.inRun {owner : State → List Byte → Reply} {p : List Byte} (h : Tame r s (owner s p)) :
    Tame r s (inRun owner s p) := by
  unfold Machine.inRun
  split
  · exact h
  · exact .refuse

theorem Refuses.inRun {owner : State → List Byte → Reply} {p : List Byte} (h : Refuses r s (owner s p)) :
    Refuses r s (inRun owner s p) := by
  unfold Machine.inRun
  split
  · exact h
  · exact .refuse nofun nofun

theorem Refuses.inConfig {owner : State → List Byte → Reply} {p : List Byte} (h : Refuses r s (owner s p)) :
    Refuses r s (inConfig owner s p) := by
  unfold Machine.inConfig
  split
  · exact h
  · exact .refuse nofun nofun

/-! ### The owners -/

theorem Tame.nop (p : List Byte) : Tame r s (ownNop s p) := by
  unfold ownNop
  split
  · exact .grant_same _
  · exact .refuse

theorem Tame.engineStatus (p : List Byte) : Tame r s (ownEngineStatus s p) := by
  unfold ownEngineStatus
  split
  · exact .grant_same _
  · exact .refuse

theorem Tame.camStatus (p : List Byte) : Tame r s (ownCamStatus s p) := by
  unfold ownCamStatus
  split
  · split
    · refine ⟨.of_ok rfl, ?_, ?_⟩
      all_goals
        dsimp only
        unfold State.drawFor
        split
      · exact rfl
      · exact .refl s
      · exact .of_same rfl rfl rfl
      · exact .refl s
    · exact .refuse
  · exact .refuse

theorem Tame.post (p : List Byte) : Tame .post s (ownPost s p) := by
  unfold ownPost
  split
  · exact .refuse
  · split
    · exact .refuse
    · split
      · unfold createRecord
        split
        · exact .grant_table _ _
        · have counted := (s.count_steady .fullRefusals)
          exact ⟨⟨fun _ => rfl, fun _ _ => rfl, nofun, fun _ h => absurd rfl h, fun _ => ⟨rfl, rfl⟩⟩, rfl, counted⟩
      · exact .refuse

theorem Tame.amend (p : List Byte) : Tame r s (ownAmend s p) := by
  unfold ownAmend
  split
  · exact .refuse
  · split
    · exact .refuse
    · split
      · exact .grant_table _ _
      · exact .refuse

theorem Tame.renew (p : List Byte) : Tame r s (ownRenew s p) := by
  unfold ownRenew
  split
  · exact .grant_table _ _
  · exact .refuse

theorem Tame.retire (p : List Byte) : Tame r s (ownRetire s p) := by
  unfold ownRetire
  split
  · split
    · exact .grant_table _ _
    · exact .refuse
  · exact .refuse

theorem Tame.retireOwner (p : List Byte) : Tame r s (ownRetireOwner s p) := by
  unfold ownRetireOwner
  split
  · split
    · exact .refuse
    · exact .grant_table _ _
  · exact .refuse

theorem Tame.query (p : List Byte) : Tame r s (ownQuery s p) := by
  unfold ownQuery
  split
  · split
    · exact .grant_same _
    · exact .refuse
  · exact .refuse

theorem Tame.scan (p : List Byte) : Tame r s (ownScan s p) := by
  unfold ownScan
  split
  · split
    · exact .grant_same _
    · exact .refuse
  · exact .refuse

theorem Tame.learn (p : List Byte) : Tame r s (ownLearn s p) := by
  unfold ownLearn
  split
  · split
    · split
      · exact .refuse
      · split
        · exact .grant rfl (s.setCam_steady _ rfl)
        · exact .refuse
    · exact .refuse
  · exact .refuse

theorem Tame.clearFault (p : List Byte) : Tame r s (ownClearFault s p) := by
  unfold ownClearFault
  split
  · split
    · split
      · exact .grant rfl (s.setCam_steady _ rfl)
      · exact .refuse
    · exact .refuse
  · exact .refuse

theorem Tame.configRead (p : List Byte) : Tame r s (ownConfigRead s p) := by
  unfold ownConfigRead
  split
  · split
    · exact .grant_same _
    · exact .refuse
  · exact .refuse

theorem Refuses.configWrite (p : List Byte) : Refuses r s (ownConfigWrite s p) := by
  unfold ownConfigWrite
  split
  · split
    · split
      · exact .grant _ _
      · exact .refuse nofun nofun
    · exact .refuse nofun nofun
  · exact .refuse nofun nofun

theorem Refuses.commit (t : Nat) (p : List Byte) : Refuses r s (ownCommit t s p) := by
  unfold ownCommit
  split
  · split
    · exact .grant _ _
    · exact ⟨fun _ => rfl, fun _ h => absurd rfl h, fun _ => rfl, fun _ _ => rfl, nofun⟩
  · exact .refuse nofun nofun

theorem Refuses.reopen (p : List Byte) : Refuses r s (ownReopen s p) := by
  unfold ownReopen
  split
  · split
    · exact .grant _ _
    · exact .refuse nofun nofun
  · exact .refuse nofun nofun

theorem Refuses.noticeRead (p : List Byte) : Refuses r s (ownNoticeRead s p) := by
  unfold ownNoticeRead
  split
  · exact .grant _ _
  · exact .refuse nofun nofun

theorem Refuses.noticeMask (p : List Byte) : Refuses r s (ownNoticeMask s p) := by
  unfold ownNoticeMask
  split
  · exact .grant _ _
  · exact .refuse nofun nofun

theorem Refuses.countersRead (p : List Byte) : Refuses r s (ownCountersRead s p) := by
  unfold ownCountersRead
  split
  · split
    · split
      · exact .refuse nofun nofun
      · exact .grant _ _
    · exact .refuse nofun nofun
  · exact .refuse nofun nofun

/-! ### Settling O26 -/

/-- What O26 says of a step that serves a request whose owner's reply `Refuses`. -/
theorem Refuses.answered {s v u : State} {y : Reply} (h : Refuses r v y) {result : Result} {payload : List Byte}
    (hv : v = { s with now := v.now }) (hu : u = y.state.answered r y.result y.payload)
    (ha : u.link.answer = some (.response r.code result payload)) (hne : result ≠ .ok) :
    u = ({ s with now := u.now, counters := u.counters }).answered r result payload ∧
    (result ≠ .configInvalid → payload = []) ∧ (result = .configInvalid → payload.length = 2) ∧
    (result ≠ .tableFull → u.counters = s.counters) ∧
    (result = .tableFull → r = .post ∧
      u.counters = { s.counters with
        fullRefusals := counterNext s.items.global.counterWrap s.counters.fullRefusals }) := by
  have answer : some (Answer.response r.code y.result y.payload) = some (.response r.code result payload) := by
    rw [← ha, hu]
    rfl
  injection answer with answer
  injection answer with _ hresult hpayload
  subst hresult hpayload
  have counters : u.counters = y.state.counters := by rw [hu]; rfl
  refine ⟨?_, h.empty hne, h.detail, fun ht => ?_, fun ht => ?_⟩
  · rw [counters, hu]
    generalize hk : y.state.counters = k
    rw [h.state hne, hk, hv]
    rfl
  · rw [counters, h.uncounted hne ht, hv]
  · obtain ⟨hr, hk⟩ := h.full ht
    refine ⟨hr, ?_⟩
    rw [counters, hk, hv]

/-- Settles O26: every owner's reply `Refuses`. -/
theorem refusalChangesNothing : Obligations.RefusalChangesNothing := by
  intro s u r p t result payload hd ht hexec ha hne
  have served : ∀ {v : State} {owner : State → List Byte → Reply}, v = { s with now := v.now } → v.delivers r p →
      Refuses r v (owner v p) → u = v.serve r owner → _ := fun hv hd h hu =>
    h.answered hv (hu.trans (State.serve_of_delivers hd _)) ha hne
  have plain : ∀ {owner : State → List Byte → Reply}, (∀ r, Refuses r s (owner s p)) →
      (Host.Outcome.next (s.serve r owner) : Host.Outcome State Fault Refusal) = .next u → _ := fun h heq =>
    served rfl hd (h r) (Host.Outcome.next.inj heq).symm
  cases r with
  | nop => exact plain (fun _ => (Tame.nop p).toRefuses) hexec
  | engineStatus => exact plain (fun _ => (Tame.engineStatus p).toRefuses) hexec
  | camStatus => exact plain (fun _ => (Tame.camStatus p).toRefuses) hexec
  | noticeRead => exact plain (fun _ => .noticeRead p) hexec
  | noticeMask => exact plain (fun _ => .noticeMask p) hexec
  | countersRead => exact plain (fun _ => .countersRead p) hexec
  | post => exact served rfl hd (Tame.post p).inRun.toRefuses (Host.Outcome.next.inj hexec).symm
  | amend => exact plain (fun _ => (Tame.amend p).inRun.toRefuses) hexec
  | renew => exact plain (fun _ => (Tame.renew p).inRun.toRefuses) hexec
  | retire => exact plain (fun _ => (Tame.retire p).inRun.toRefuses) hexec
  | retireOwner => exact plain (fun _ => (Tame.retireOwner p).inRun.toRefuses) hexec
  | query => exact plain (fun _ => (Tame.query p).inRun.toRefuses) hexec
  | scan => exact plain (fun _ => (Tame.scan p).inRun.toRefuses) hexec
  | learn => exact plain (fun _ => (Tame.learn p).inRun.toRefuses) hexec
  | clearFault => exact plain (fun _ => (Tame.clearFault p).inRun.toRefuses) hexec
  | configWrite => exact plain (fun _ => (Refuses.configWrite p).inConfig) hexec
  | configRead => exact plain (fun _ => (Tame.configRead p).toRefuses) hexec
  | reopen => exact plain (fun _ => (Refuses.reopen p).inRun) hexec
  | commit =>
    have at_t : u = ({ s with now := t } : State).serve .commit (inConfig (ownCommit t)) :=
      (Host.Outcome.next.inj hexec).symm.trans (State.at_of_le ht _)
    exact served (v := { s with now := t }) rfl hd (Refuses.commit t p).inConfig at_t
  | softReset =>
    have hu := (Host.Outcome.next.inj hexec).symm
    split at hu
    · rw [hu] at ha
      cases ha
    · exact served (owner := fun v _ => refuse v .badLength) rfl hd (.refuse nofun nofun) hu

end Sys2Proof.Machine

/-! ## What each command can change (R149, R153, R176, R178, R179; logs 1 and 29) -/

namespace Sys2Proof.Machine

/-! ### The fields with commands of their own -/

def MovesTracker (i : Instr) : Prop :=
  (∃ e t, i = .crkEdge e t) ∨ (∃ t, i = .stall t) ∨ (∃ c e t, i = .camEdge c e t) ∨ (∃ t, i = .commit t) ∨
    i = .reopen ∨ MayReset i

def MovesMode (i : Instr) : Prop := (∃ t, i = .commit t) ∨ i = .reopen ∨ MayReset i

def MovesTimebase (i : Instr) : Prop :=
  (∃ m t, i = .pwmPeriodEnd m t) ∨ (∃ t, i = .commit t) ∨ i = .reopen ∨ MayReset i

def MovesParkLine (i : Instr) : Prop :=
  i = .parkLineAssert ∨ (∃ t, i = .parkLineRelease t) ∨ (∃ t, i = .rstnRise t) ∨ MayReset i

def MovesLagging (i : Instr) : Prop := i = .parkLineAssert ∨ (∃ t, i = .parknRise t) ∨ ∃ t, i = .parkLineRelease t

def MovesTold (i : Instr) : Prop :=
  i = .parkLineAssert ∨ (∃ t, i = .parknRise t) ∨ (∃ t, i = .parkLineRelease t) ∨ MayReset i

def MovesRstn (i : Instr) : Prop := (∃ a b t, i = .powerOn a b t) ∨ i = .rstn ∨ ∃ t, i = .rstnRise t

def MovesParkn (i : Instr) : Prop := (∃ a b t, i = .powerOn a b t) ∨ i = .parkLineAssert ∨ ∃ t, i = .parknRise t

/-- From `s` to `u` each of these fields changes only if `i` is one of its commands; the queue stays, and time does not
turn back. -/
structure Frame (i : Instr) (s u : State) : Prop where
  pending : u.pending = s.pending
  now : s.now ≤ u.now
  lagging : u.lagging ≠ s.lagging → MovesLagging i
  told : u.told ≠ s.told → MovesTold i
  items : u.items ≠ s.items → i = .configWrite ∨ MayReset i
  mode : u.mode ≠ s.mode → MovesMode i
  mask : u.mask ≠ s.mask → i = .noticeMask ∨ MayReset i
  tracker : u.tracker ≠ s.tracker → MovesTracker i
  timebase : u.timebase ≠ s.timebase → MovesTimebase i
  parkLine : u.parkLine ≠ s.parkLine → MovesParkLine i
  rstn : u.rstn ≠ s.rstn → MovesRstn i
  parkn : u.parkn ≠ s.parkn → MovesParkn i

namespace Frame

variable {i : Instr} {s u v : State}

theorem refl (i : Instr) (s : State) : Frame i s s where
  pending := rfl
  now := le_rfl
  lagging h := absurd rfl h
  told h := absurd rfl h
  items h := absurd rfl h
  mode h := absurd rfl h
  mask h := absurd rfl h
  tracker h := absurd rfl h
  timebase h := absurd rfl h
  parkLine h := absurd rfl h
  rstn h := absurd rfl h
  parkn h := absurd rfl h

theorem moved_trans {α : Type} {a b c : α} {p : Prop} (h : b ≠ a → p) (k : c ≠ b → p) (hne : c ≠ a) : p := by
  by_cases hb : b = a
  · exact k (hb ▸ hne)
  · exact h hb

theorem trans (h : Frame i s u) (k : Frame i u v) : Frame i s v where
  pending := k.pending.trans h.pending
  now := h.now.trans k.now
  lagging := moved_trans h.lagging k.lagging
  told := moved_trans h.told k.told
  items := moved_trans h.items k.items
  mode := moved_trans h.mode k.mode
  mask := moved_trans h.mask k.mask
  tracker := moved_trans h.tracker k.tracker
  timebase := moved_trans h.timebase k.timebase
  parkLine := moved_trans h.parkLine k.parkLine
  rstn := moved_trans h.rstn k.rstn
  parkn := moved_trans h.parkn k.parkn

theorem of_within (h : Within s u) : Frame i s u := by
  rw [h]
  exact { refl i s with }

theorem ite {p : Prop} [Decidable p] (h : Frame i s u) (k : Frame i s v) : Frame i s (if p then u else v) := by
  split
  · exact h
  · exact k

theorem eachCam {f : Cam → State → State} (h : ∀ c w, Frame i w (f c w)) : Frame i s (s.eachCam f) := by
  rw [State.eachCam_eq]
  exact (((h .fi _).trans (h .fe _)).trans (h .ri _)).trans (h .re _)

theorem setTracker (h : MovesTracker i) (s : State) (y : Sync) (x : Nat) : Frame i s (s.setTracker y x) :=
  { refl i s with tracker := fun _ => h }

theorem localTo {c : Cam} (h : LocalTo c s u) : Frame i s u := of_within h.camsMove.within

theorem camsMove (h : CamsMove s u) : Frame i s u := of_within h.within

end Frame

/-! ### A command's effect beside its own business -/

/-- What a command `i` from `s` to `u` leaves of these fields, of the notices, of CYCLES and of the learned offsets,
unless it is one of the commands named for each. -/
structure Effect (i : Instr) (s u : State) : Prop where
  frame : Frame i s u
  notices : MayReset i ∨ i = .noticeRead ∨ ∀ n : Notice, s.noticeSet n = true → u.noticeSet n = true
  cycles : MayReset i ∨ i = .countersRead ∨ (∃ e t, i = .crkEdge e t) ∨ u.counters.cycles = s.counters.cycles
  offsets : ∀ c : Cam, (u.cam c).lane.offset ≠ (s.cam c).lane.offset →
    (∃ e t, i = .camEdge c e t) ∨ i = .reopen ∨ MayReset i

namespace Effect

variable {i : Instr} {s u v : State}

theorem of_steady (h : Frame i s u) (k : Steady s u) : Effect i s u :=
  ⟨h, .inr (.inr k.notices), .inr (.inr (.inr k.cycles)), fun c hne => absurd (k.offsets c) hne⟩

theorem of_within (h : Within s u) (k : Steady s u) : Effect i s u := .of_steady (.of_within h) k

theorem of_reset (h : Frame i s u) (k : MayReset i) : Effect i s u := ⟨h, .inl k, .inl k, fun _ _ => .inr (.inr k)⟩

theorem refl (i : Instr) (s : State) : Effect i s s := .of_steady (.refl i s) (.refl s)

theorem ite {p : Prop} [Decidable p] (h : Effect i s u) (k : Effect i s v) : Effect i s (if p then u else v) := by
  split
  · exact h
  · exact k

/-- A command's effect after the time has moved on to its instant. -/
theorem later {t : Nat} (ht : s.now ≤ t) (h : Effect i { s with now := t } u) : Effect i s u where
  frame := Frame.trans (u := { s with now := t }) { Frame.refl i s with now := ht } h.frame
  notices := h.notices
  cycles := h.cycles
  offsets := h.offsets

theorem timed {t : Nat} {event : State → State}
    (h : Effect i { s with now := t } (event { s with now := t })) : Effect i s (s.at t event) := by
  by_cases ht : t < s.now
  · rw [State.at_of_lt ht]
    exact .refl i s
  · rw [State.at_of_le (Nat.not_lt.1 ht)]
    exact h.later (Nat.not_lt.1 ht)

/-- The answer in hand is the link's alone. -/
theorem answered (h : Effect i s u) (r : Request) (x : Result) (p : List Byte) : Effect i s (u.answered r x p) where
  frame := h.frame.trans (.of_within rfl)
  notices := h.notices
  cycles := h.cycles
  offsets := h.offsets

theorem serve {r : Request} {owner : State → List Byte → Reply} (h : ∀ p, Effect i s (owner s p).state) :
    Effect i s (s.serve r owner) := by
  by_cases hd : ∃ p, s.delivers r p
  · obtain ⟨p, hd⟩ := hd
    rw [State.serve_of_delivers hd]
    exact (h p).answered r _ _
  · rw [State.serve_of_not fun p hp => hd ⟨p, hp⟩]
    exact .refl i s

theorem tame {r : Request} {y : Reply} (h : Tame r s y) : Effect i s y.state := .of_within h.within h.steady

theorem inConfig {owner : State → List Byte → Reply} {p : List Byte} (h : Effect i s (owner s p).state) :
    Effect i s (inConfig owner s p).state := by
  unfold Machine.inConfig
  split
  · exact h
  · exact .refl i s

theorem inRun {owner : State → List Byte → Reply} {p : List Byte} (h : Effect i s (owner s p).state) :
    Effect i s (inRun owner s p).state := by
  unfold Machine.inRun
  split
  · exact h
  · exact .refl i s

end Effect

/-! ### The requests with an effect of their own -/

section Requests

variable (s : State) (p : List Byte)

theorem Effect.noticeRead : Effect .noticeRead s (ownNoticeRead s p).state := by
  unfold ownNoticeRead
  split
  · exact ⟨.of_within rfl, .inr (.inl rfl), .inr (.inr (.inr rfl)), fun _ h => absurd rfl h⟩
  · exact .refl _ s

theorem Effect.noticeMask : Effect .noticeMask s (ownNoticeMask s p).state := by
  unfold ownNoticeMask
  split
  · exact .of_steady { Frame.refl _ s with mask := fun _ => .inl rfl } (.of_same rfl rfl rfl)
  · exact .refl _ s

theorem Effect.countersRead : Effect .countersRead s (ownCountersRead s p).state := by
  have cleared : ∀ g, Effect .countersRead s { s with counters := s.counters.clearGroup g } := fun g =>
    ⟨.of_within rfl, .inr (.inr fun _ h => h), .inr (.inl rfl), fun _ h => absurd rfl h⟩
  unfold ownCountersRead
  split
  · split
    · split
      · exact .refl _ s
      · exact Effect.ite (cleared _) (.refl _ s)
    · exact .refl _ s
  · exact .refl _ s

theorem Effect.configWrite : Effect .configWrite s (ownConfigWrite s p).state := by
  unfold ownConfigWrite
  split
  · split
    · split
      · exact .of_steady { Frame.refl _ s with items := fun _ => .inl rfl } (.of_same rfl rfl rfl)
      · exact .refl _ s
    · exact .refl _ s
  · exact .refl _ s

theorem Effect.commit (t' t : Nat) : Effect (.commit t') s (ownCommit t s p).state := by
  have entered : Effect (.commit t') s (s.commit t) := by
    refine .of_steady ?_ ?_
    · rw [State.commit_eq]
      exact { Frame.refl _ s with
        mode := fun _ => .inl ⟨t', rfl⟩
        tracker := fun _ => .inr (.inr (.inr (.inl ⟨t', rfl⟩)))
        timebase := fun _ => .inr (.inl ⟨t', rfl⟩) }
    · exact ⟨⟨fun _ h => h, rfl⟩, fun c => by rw [State.commit_cam]; rfl⟩
  unfold ownCommit
  split
  · split
    · exact entered
    · exact .refl _ s
  · exact .refl _ s

theorem State.disableCam_latches (c : Cam) : Latches s (s.disableCam c) :=
  (((s.abortLearn_steady c).trans (State.standDown_steady _ c .disabled)).toLatches.trans
    (State.setCam_latches _ c _)).trans (State.setCam_latches _ c _)

theorem State.reopen_latches : Latches s s.reopen :=
  ((s.setTable_steady (purge s.table)).toLatches.trans
    (State.eachCam_latches _ fun c u => u.disableCam_latches c)).trans ⟨fun _ h => h, rfl⟩

theorem Effect.reopen : Effect .reopen s (ownReopen s p).state := by
  have left : Effect .reopen s s.reopen := by
    have kept := s.reopen_latches
    refine ⟨?_, .inr (.inr kept.notices), .inr (.inr (.inr kept.cycles)), fun _ _ => .inr (.inl rfl)⟩
    rw [State.reopen_eq]
    exact { Frame.refl _ s with
      mode := fun _ => .inr (.inl rfl)
      tracker := fun _ => .inr (.inr (.inr (.inr (.inl rfl))))
      timebase := fun _ => .inr (.inr (.inl rfl)) }
  unfold ownReopen
  split
  · split
    · exact left
    · exact .refl _ s
  · exact .refl _ s

end Requests

/-! ### The link and the resets -/

theorem resetBlocks_frame {i : Instr} (h : MayReset i) (s : State) (cause : ResetCause) (ended : Option Nat) :
    Frame i s (s.resetBlocks cause ended) where
  pending := rfl
  now := le_rfl
  lagging hne := absurd rfl hne
  told _ := .inr (.inr (.inr h))
  items _ := .inr h
  mode _ := .inr (.inr h)
  mask _ := .inr h
  tracker _ := .inr (.inr (.inr (.inr (.inr h))))
  timebase _ := .inr (.inr (.inr h))
  parkLine _ := .inr (.inr (.inr h))
  rstn hne := absurd rfl hne
  parkn hne := absurd rfl hne

theorem Effect.powerOn (rstn parkn : Level) (t : Nat) {s u : State} (h : exec (.powerOn rstn parkn t) s = .next u) :
    Effect (.powerOn rstn parkn t) s u := by
  obtain rfl := Host.Outcome.next.inj h
  have resets : MayReset (.powerOn rstn parkn t) := .inl ⟨_, _, _, rfl⟩
  refine Effect.timed (.of_reset (Frame.trans (u := { s with now := t, rstn := rstn, parkn := parkn }) ?_
    (resetBlocks_frame resets _ _ _)) resets)
  exact { Frame.refl _ { s with now := t } with
    rstn := fun _ => .inl ⟨_, _, _, rfl⟩
    parkn := fun _ => .inl ⟨_, _, _, rfl⟩ }

theorem Effect.rstn {s u : State} (h : exec .rstn s = .next u) : Effect .rstn s u := by
  obtain rfl := Host.Outcome.next.inj h
  have resets : MayReset .rstn := .inr (.inl rfl)
  refine Effect.ite (.refl _ s) (.of_reset (Frame.trans (u := { s with rstn := .low }) ?_
    (resetBlocks_frame resets _ _ _)) resets)
  exact { Frame.refl _ s with rstn := fun _ => .inr (.inl rfl) }

theorem Effect.rstnRise (t : Nat) {s u : State} (h : exec (.rstnRise t) s = .next u) : Effect (.rstnRise t) s u := by
  obtain rfl := Host.Outcome.next.inj h
  refine Effect.timed (Effect.ite (.refl _ _) (.of_steady ?_ (.of_same rfl rfl rfl)))
  exact { Frame.refl _ { s with now := t } with
    rstn := fun _ => .inr (.inr ⟨t, rfl⟩)
    parkLine := fun _ => .inr (.inr (.inl ⟨t, rfl⟩)) }

theorem Effect.readyDelayExpiry (t : Nat) {s u : State} (h : exec (.readyDelayExpiry t) s = .next u) :
    Effect (.readyDelayExpiry t) s u := by
  obtain rfl := Host.Outcome.next.inj h
  exact Effect.timed (Effect.ite (.of_within rfl (.of_same rfl rfl rfl)) (.refl _ _))

theorem Effect.csnFall {s u : State} (h : exec .csnFall s = .next u) : Effect .csnFall s u := by
  obtain rfl := Host.Outcome.next.inj h
  split
  · exact .of_within rfl (.of_same rfl rfl rfl)
  all_goals exact .refl _ s

theorem State.countVerdict_effect (i : Instr) (s : State) (v : Verdict) : Effect i s (s.countVerdict v) := by
  unfold State.countVerdict
  split
  · exact .of_within rfl (s.count_steady _)
  all_goals exact .refl _ s

theorem State.restartTimer_effect (i : Instr) (s : State) (v : Verdict) (t : Nat) : Effect i s (s.restartTimer v t) :=
  Effect.ite (.of_within rfl (.of_same rfl rfl rfl)) (.refl _ s)

end Sys2Proof.Machine

/-! ## What an event of the engine, of the valves and of the park line can change (R149, R176; logs 1 and 29) -/

namespace Sys2Proof.Machine

/-! ### The link's events that go on -/

theorem Effect.trans {i : Instr} {s u v : State} (h : Effect i s u) (k : Effect i u v) : Effect i s v where
  frame := h.frame.trans k.frame
  notices := by
    obtain h | h | h := h.notices
    · exact .inl h
    · exact .inr (.inl h)
    · obtain k | k | k := k.notices
      · exact .inl k
      · exact .inr (.inl k)
      · exact .inr (.inr fun n hn => k n (h n hn))
  cycles := by
    obtain h | h | h | h := h.cycles
    · exact .inl h
    · exact .inr (.inl h)
    · exact .inr (.inr (.inl h))
    · rw [← h]
      exact k.cycles
  offsets c := Frame.moved_trans (h.offsets c) (k.offsets c)

theorem Effect.with_link (i : Instr) (s : State) (l : Link) : Effect i s { s with link := l } :=
  .of_within rfl (.of_same rfl rfl rfl)

theorem Effect.csnRise (sampled : List Bool) (t : Nat) {s u : State} (h : exec (.csnRise sampled t) s = .next u) :
    Effect (.csnRise sampled t) s u := by
  obtain rfl := Host.Outcome.next.inj h
  refine Effect.timed ?_
  dsimp only
  split
  · exact .refl _ _
  · exact .of_within rfl (.of_same rfl rfl rfl)
  · exact (Effect.with_link _ _ _).trans (.of_within rfl (State.count_steady _ _))
  · exact ((Effect.with_link _ _ _).trans (State.countVerdict_effect _ _ _)).trans (State.restartTimer_effect _ _ _ _)

theorem Effect.processingComplete (t : Nat) {s u : State} (h : exec (.processingComplete t) s = .next u) :
    Effect (.processingComplete t) s u := by
  obtain rfl := Host.Outcome.next.inj h
  have resets : MayReset (.processingComplete t) := .inr (.inr ⟨t, rfl⟩)
  refine Effect.timed ?_
  dsimp only
  split
  · split
    · exact .of_within rfl (.of_same rfl rfl rfl)
    · exact .of_reset (resetBlocks_frame resets _ _ _) resets
    · exact .refl _ _
  · exact .refl _ _

theorem Effect.linkLoss (t : Nat) {s u : State} (h : exec (.linkLoss t) s = .next u) : Effect (.linkLoss t) s u := by
  obtain rfl := Host.Outcome.next.inj h
  refine Effect.timed (Effect.ite (.of_within rfl ?_) (.refl _ _))
  exact Steady.trans (u := { s with now := t, table := purge s.table, link := { s.link with timer := some t } })
    (.of_same rfl rfl rfl) ((State.count_steady _ _).trans (State.notify_steady _ _))

theorem Effect.softReset {s u : State} (h : exec .softReset s = .next u) : Effect .softReset s u := by
  obtain rfl := Host.Outcome.next.inj h
  exact Effect.ite (.of_within rfl (.of_same rfl rfl rfl)) (Effect.serve fun _ => .refl _ s)

/-! ### The crank -/

theorem State.countTimes_within (s : State) (k : Counter) (n : Nat) : Within s (s.countTimes k n) := by
  unfold Within
  rw [State.countTimes_eq]

theorem State.countLifetimes_within (s : State) : Within s s.countLifetimes := by
  have counted := State.countTimes_within { s with table := s.table.map Slot.countDown } .lapsedDemands (lapsing s.table)
  have tabled : Within s { s with table := s.table.map Slot.countDown } := rfl
  unfold State.countLifetimes
  dsimp only
  split
  · exact tabled.trans counted
  · exact (tabled.trans counted).trans rfl

/-- What is kept up to the counters is kept beside the count of a cycle mark. -/
theorem Steady.countCycle {s u : State} (h : Steady s u) : Steady s.countCycle u.countCycle :=
  ⟨⟨h.notices, congrArg (fun n => (n + 1) % 4294967296) h.cycles⟩, h.offsets⟩

/-- The half after a tooth with or without a gap (R8). -/
def Cycle.halfAfter (y : Cycle) (gap : Bool) : Half := if gap then y.half.flip else y.half

/-- The tracker's own part of a tooth taken in ENGINE_SYNC (R8, R9). -/
def State.placeTooth (s : State) (k : Tooth) (y : Cycle) (t : Nat) (gap : Bool) : State :=
  let g := s.items.global
  let n := nextTooth g k t gap
  let angle := (y.halfAfter gap).angle + n.position * g.pitchAngle
  s.setTracker (.engineSync { n with angle := angle } { y with half := y.halfAfter gap, coveredFrom := angle })
    (engineSpeed g n.pitch)

/-- A tooth taken in ENGINE_SYNC with the closes that its step covers, before a cycle mark (R9, R17). -/
def State.closeTooth (s : State) (k : Tooth) (y : Cycle) (t : Nat) (gap : Bool) : State :=
  ((s.placeTooth k y t gap).closeAll y.coveredFrom ((y.halfAfter gap).angle +
    (nextTooth s.items.global k t gap).position * s.items.global.pitchAngle)).newPitch

theorem State.engineTooth_eq (s : State) (k : Tooth) (y : Cycle) (t : Nat) (gap : Bool) :
    s.engineTooth k y t gap =
      if gap ∧ y.halfAfter gap = .first then (s.closeTooth k y t gap).issueMark else s.closeTooth k y t gap := rfl

theorem State.closeTooth_steady (s : State) (k : Tooth) (y : Cycle) (t : Nat) (gap : Bool) :
    Steady s (s.closeTooth k y t gap) :=
  Steady.trans (u := s.placeTooth k y t gap) (.of_same rfl rfl rfl)
    ((State.closeAll_steady _ _ _).trans (State.newPitch_steady _))

section Crank

variable {i : Instr} (s : State)

theorem State.count_frame (k : Counter) : Frame i s (s.count k) := .of_within rfl

theorem State.notify_frame (n : Notice) : Frame i s (s.notify n) := .of_within rfl

variable {s} (moves : MovesTracker i)
include moves

theorem State.gapError_frame (t : Nat) : Frame i s (s.gapError t) :=
  ((s.count_frame _).trans (State.notify_frame _ _)).trans (.setTracker moves _ _ _)

theorem State.closeCycle_frame : Frame i s s.closeCycle := by
  unfold State.closeCycle
  split
  · split
    · exact ((s.count_frame _).trans (State.notify_frame _ _)).trans
        ((Frame.setTracker moves _ _ _).trans (.camsMove (State.loseSync_camsMove _)))
    · exact .setTracker moves _ _ _
  · exact .refl i s

theorem State.issueMark_frame : Frame i s s.issueMark :=
  (Frame.trans (.of_within (Within.trans (u := s.countCycle) rfl (State.countLifetimes_within _)))
    (.eachCam fun c u => .localTo (u.cycleMark_localTo c))).trans (State.closeCycle_frame moves)

theorem State.engineTooth_frame (k : Tooth) (y : Cycle) (t : Nat) (gap : Bool) :
    Frame i s (s.engineTooth k y t gap) := by
  have closed : Frame i s (s.closeTooth k y t gap) :=
    Frame.trans (u := s.placeTooth k y t gap) (.setTracker moves s _ _)
      ((Frame.camsMove (State.closeAll_camsMove _ _ _)).trans (.camsMove (State.newPitch_camsMove _)))
  rw [State.engineTooth_eq]
  exact .ite (closed.trans (State.issueMark_frame moves)) closed

theorem State.seekTooth_frame (q : Search) (t : Nat) : Frame i s (s.seekTooth q t) := by
  unfold State.seekTooth
  dsimp only
  split
  · split
    all_goals exact .setTracker moves _ _ _
  · exact .setTracker moves _ _ _

theorem State.crankEdge_frame (t : Nat) : Frame i s (s.crankEdge t) := by
  have noise : Frame i s (s.count .noiseRejects) := s.count_frame _
  unfold State.crankEdge
  dsimp only
  split
  · exact .setTracker moves _ _ _
  · exact .ite noise (State.seekTooth_frame moves _ t)
  · exact .ite noise (.ite (.setTracker moves _ _ _) (State.gapError_frame moves t))
  · exact .ite noise (.ite (State.engineTooth_frame moves _ _ t _)
      ((State.gapError_frame moves t).trans (.camsMove (State.loseSync_camsMove _))))

theorem State.stalled_frame : Frame i s s.stalled := by
  have stopped : Frame i s ((s.count .stalls).setTracker .stopped 0) := (s.count_frame _).trans (.setTracker moves _ _ _)
  unfold State.stalled
  dsimp only
  split
  · exact .refl i s
  · exact stopped
  · exact stopped.trans (State.notify_frame _ _)
  · exact (stopped.trans (State.notify_frame _ _)).trans (.camsMove (State.loseSync_camsMove _))

end Crank

/-- The tooth after `k` in ENGINE_SYNC is a cycle mark (R11). -/
def EndsCycle (s : State) : Prop :=
  ∃ k y, s.tracker.sync = .engineSync k y ∧ y.half = .second ∧ k.position = s.items.global.lastPosition

/-- What a tooth leaves, once CYCLES has counted a cycle mark (R11). -/
def MarkSteady (s u : State) : Prop := Steady s u ∨ EndsCycle s ∧ Steady s.countCycle u

theorem State.engineTooth_steady {s : State} {k : Tooth} {y : Cycle} (hy : s.tracker.sync = .engineSync k y) {t : Nat}
    {gap : Bool} (hgap : gap = gapDue s.items.global k) : MarkSteady s (s.engineTooth k y t gap) := by
  have closed := s.closeTooth_steady k y t gap
  rw [State.engineTooth_eq]
  split
  next hmark =>
    obtain ⟨rfl, hhalf⟩ := hmark
    refine .inr ⟨⟨k, y, hy, ?_, of_decide_eq_true hgap.symm⟩, closed.countCycle.trans (State.issueMark_steady _)⟩
    cases hh : y.half with
    | first => rw [Cycle.halfAfter, if_pos rfl, hh] at hhalf; cases hhalf
    | second => rfl
  next => exact .inl closed

theorem State.crankEdge_steady (s : State) (t : Nat) : MarkSteady s (s.crankEdge t) := by
  have noise : MarkSteady s (s.count .noiseRejects) := .inl (s.count_steady _)
  unfold State.crankEdge
  dsimp only
  split
  · exact .inl (s.setTracker_steady _ _)
  · split
    · exact noise
    · exact .inl (s.seekTooth_steady _ t)
  · split
    · exact noise
    · split
      · exact .inl (s.setTracker_steady _ _)
      · exact .inl (s.gapError_steady t)
  next k y hy =>
    split
    · exact noise
    · split
      next hagree => exact State.engineTooth_steady hy hagree
      next => exact .inl ((s.gapError_steady t).trans (State.loseSync_steady _))

theorem Effect.of_markSteady {edge : Edge} {t : Nat} {s u : State} (h : Frame (.crkEdge edge t) s u)
    (k : MarkSteady s u) : Effect (.crkEdge edge t) s u := by
  obtain k | ⟨-, k⟩ := k
  · exact .of_steady h k
  · exact ⟨h, .inr (.inr k.notices), .inr (.inr (.inl ⟨_, _, rfl⟩)), fun c hne => absurd (k.offsets c) hne⟩

theorem Effect.crkEdge (edge : Edge) (t : Nat) {s u : State} (h : exec (.crkEdge edge t) s = .next u) :
    Effect (.crkEdge edge t) s u := by
  obtain rfl := Host.Outcome.next.inj h
  exact Effect.timed (.ite (.of_markSteady (State.crankEdge_frame (.inl ⟨_, _, rfl⟩) t) (State.crankEdge_steady _ t))
    (.refl _ _))

theorem Effect.stall (t : Nat) {s u : State} (h : exec (.stall t) s = .next u) : Effect (.stall t) s u := by
  obtain rfl := Host.Outcome.next.inj h
  exact Effect.timed (.ite (.of_steady (State.stalled_frame (.inr (.inl ⟨_, rfl⟩))) (State.stalled_steady _))
    (.refl _ _))

end Sys2Proof.Machine

/-! ## Every command keeps what is not its own (O12, O59, O60) -/

namespace Sys2Proof.Machine

/-! ### One cam's commands and the other cams -/

/-- The other cams keep their sequencer, loop, channel, arbiter and learned offset. -/
def Spares (c : Cam) (s u : State) : Prop :=
  ∀ b : Cam, b ≠ c → (u.cam b).phaser = (s.cam b).phaser ∧ (u.cam b).loop = (s.cam b).loop ∧
    (u.cam b).channel = (s.cam b).channel ∧ (u.cam b).arbiter = (s.cam b).arbiter ∧
    (u.cam b).lane.offset = (s.cam b).lane.offset

namespace Spares

variable {c : Cam} {s u v : State}

theorem of_cams (h : ∀ b, b ≠ c → u.cam b = s.cam b) : Spares c s u := fun b hb => by
  rw [h b hb]
  exact ⟨rfl, rfl, rfl, rfl, rfl⟩

theorem of_localTo (h : LocalTo c s u) : Spares c s u := of_cams fun _ hb => h.cam_ne hb

theorem refl (c : Cam) (s : State) : Spares c s s := of_cams fun _ _ => rfl

theorem trans (h : Spares c s u) (k : Spares c u v) : Spares c s v := fun b hb => by
  obtain ⟨hp, hl, hc, ha, ho⟩ := h b hb
  obtain ⟨kp, kl, kc, ka, ko⟩ := k b hb
  exact ⟨kp.trans hp, kl.trans hl, kc.trans hc, ka.trans ha, ko.trans ho⟩

theorem ite {p : Prop} [Decidable p] (h : Spares c s u) (k : Spares c s v) : Spares c s (if p then u else v) := by
  split
  · exact h
  · exact k

theorem timed {t : Nat} {event : State → State} (h : Spares c { s with now := t } (event { s with now := t })) :
    Spares c s (s.at t event) := by
  by_cases ht : t < s.now
  · rw [State.at_of_lt ht]
    exact .refl c s
  · rw [State.at_of_le (Nat.not_lt.1 ht)]
    exact h

end Spares

theorem State.gainLanes_cam_lane (s : State) (a : Nat) (b : Cam) :
    (s.gainLanes a).cam b = { s.cam b with lane := ((s.gainLanes a).cam b).lane } := by
  rw [State.gainLanes_cam]
  split <;> rfl

theorem State.gainLanes_spares (s : State) (a : Nat) (c : Cam) : Spares c s (s.gainLanes a) := fun b _ => by
  have offset := (s.gainLanes_steady a).offsets b
  rw [State.gainLanes_cam_lane]
  exact ⟨rfl, rfl, rfl, rfl, offset⟩

/-- What an edge of a cam leaves, in whatever sync state it is taken: a tracker, and the edge's classification after the
lanes' gain of sync, if any. -/
structure EdgeKeeps (c : Cam) (s u : State) : Prop where
  latches : Latches s u
  spares : Spares c s u
  frame : ∀ {i : Instr}, MovesTracker i → Frame i s u

namespace EdgeKeeps

variable {c : Cam} {s u v : State}

theorem refl (c : Cam) (s : State) : EdgeKeeps c s s := ⟨.refl s, .refl c s, fun _ => .refl _ s⟩

theorem trans (h : EdgeKeeps c s u) (k : EdgeKeeps c u v) : EdgeKeeps c s v :=
  ⟨h.latches.trans k.latches, h.spares.trans k.spares, fun m => (h.frame m).trans (k.frame m)⟩

theorem of_localTo (h : LocalTo c s u) (k : Latches s u) : EdgeKeeps c s u :=
  ⟨k, .of_localTo h, fun _ => .localTo h⟩

theorem setTracker (c : Cam) (s : State) (y : Sync) (v : Nat) : EdgeKeeps c s (s.setTracker y v) :=
  ⟨(s.setTracker_steady y v).toLatches, .of_cams fun _ _ => rfl, fun m => .setTracker m s y v⟩

theorem classify (c : Cam) (s : State) (a : Nat) : EdgeKeeps c s (s.classify c a) :=
  .of_localTo (s.classify_localTo c a) (s.classify_latches c a)

theorem gainSync (c : Cam) (s : State) (k : Tooth) (h : Half) (a : Nat) : EdgeKeeps c s (s.gainSync k c h a) :=
  (setTracker c s _ _).trans
    ((of_localTo (State.notify_localTo _ c .engineSynced) (State.notify_steady _ _).toLatches).trans
      (EdgeKeeps.trans ⟨(State.gainLanes_steady _ a).toLatches, State.gainLanes_spares _ a c,
        fun _ => .camsMove (State.gainLanes_camsMove _ a)⟩ (classify c _ a)))

theorem engineEdge (c : Cam) (s : State) (k : Tooth) (y : Cycle) (t : Nat) : EdgeKeeps c s (s.engineEdge k y c t) := by
  unfold State.engineEdge
  dsimp only
  split
  · exact (setTracker c s _ _).trans (classify c _ _)
  · exact classify c s _

theorem camEdge {t : Nat} (h : s.camEdge c t = .next u) : EdgeKeeps c s u := by
  unfold State.camEdge at h
  split at h
  · obtain rfl := Host.Outcome.next.inj h
    exact .refl c s
  · obtain rfl := Host.Outcome.next.inj h
    exact .refl c s
  · split at h
    · unfold State.resolve at h
      dsimp only at h
      split at h
      · obtain rfl := Host.Outcome.next.inj h
        exact gainSync c s _ _ _
      · obtain rfl := Host.Outcome.next.inj h
        exact gainSync c s _ _ _
      · obtain rfl := Host.Outcome.next.inj h
        exact of_localTo (s.count_localTo c _) (s.count_steady _).toLatches
      · cases h
    · obtain rfl := Host.Outcome.next.inj h
      exact .refl c s
  · obtain rfl := Host.Outcome.next.inj h
    exact engineEdge c s _ _ t

theorem exec_camEdge {edge : Edge} {t : Nat} (h : exec (.camEdge c edge t) s = .next u) :
    s = u ∨ s.now ≤ t ∧ EdgeKeeps c { s with now := t } u := by
  change (if _ then _ else _) = _ at h
  split at h
  · exact .inl (Host.Outcome.next.inj h)
  next ht =>
    refine .inr ⟨Nat.not_lt.1 ht, ?_⟩
    split at h
    · exact camEdge h
    · obtain rfl := Host.Outcome.next.inj h
      exact .refl c _

end EdgeKeeps

theorem Effect.camEdge (c : Cam) (edge : Edge) (t : Nat) {s u : State} (h : exec (.camEdge c edge t) s = .next u) :
    Effect (.camEdge c edge t) s u := by
  obtain rfl | ⟨ht, ⟨notices, cycles⟩, spares, frame⟩ := EdgeKeeps.exec_camEdge h
  · exact .refl _ s
  · refine Effect.later ht ⟨frame (.inr (.inr (.inl ⟨_, _, _, rfl⟩))), .inr (.inr notices),
      .inr (.inr (.inr cycles)), fun b hb => .inl ?_⟩
    by_cases hc : b = c
    · subst hc
      exact ⟨_, _, rfl⟩
    · obtain ⟨-, -, -, -, offset⟩ := spares b hc
      exact absurd offset hb

/-! ### Windows and valves -/

theorem State.interpolatedClose_localTo (s : State) (c : Cam) (j t : Nat) : LocalTo c s (s.interpolatedClose c j t) := by
  unfold State.interpolatedClose
  split
  · dsimp only
    split
    · exact s.closeBy_localTo _ _ c j
    · exact .refl c s
  · exact .refl c s

theorem State.interpolatedClose_steady (s : State) (c : Cam) (j t : Nat) : Steady s (s.interpolatedClose c j t) := by
  unfold State.interpolatedClose
  split
  · dsimp only
    split
    · exact s.closeBy_steady _ _ c j
    · exact .refl s
  · exact .refl s

theorem Effect.windowClose (c : Cam) (j t : Nat) {s u : State} (h : exec (.windowClose c j t) s = .next u) :
    Effect (.windowClose c j t) s u := by
  obtain rfl := Host.Outcome.next.inj h
  exact Effect.timed (.of_steady (.localTo (State.interpolatedClose_localTo _ c j t)) (State.interpolatedClose_steady _ c j t))

theorem State.driverFault_localTo (s : State) (c : Cam) (fault : Latch) (cause : Cause) :
    LocalTo c s (s.driverFault c fault cause) :=
  (s.setCam_localTo c _).trans (State.reportFault_localTo _ c cause)

theorem Effect.overcurrent (c : Cam) (mA : Nat) {s u : State} (h : exec (.overcurrent c mA) s = .next u) :
    Effect (.overcurrent c mA) s u := by
  obtain rfl := Host.Outcome.next.inj h
  exact Effect.ite (.of_steady (.localTo (s.driverFault_localTo c _ _)) (s.driverFault_steady c _ _)) (.refl _ s)

theorem Effect.dutyElapsed (c : Cam) (t : Nat) {s u : State} (h : exec (.dutyElapsed c t) s = .next u) :
    Effect (.dutyElapsed c t) s u := by
  obtain rfl := Host.Outcome.next.inj h
  exact Effect.timed (.ite (.of_steady (.localTo (State.setCam_localTo _ c _)) (State.setChannel_steady _ c _)) (.refl _ _))

theorem Effect.periodEnd (means : PerCam Nat) (t : Nat) (s : State) (b : Timebase) :
    Effect (.pwmPeriodEnd means t) s (s.periodEnd b means) := by
  have judged : Effect (.pwmPeriodEnd means t) s
      (s.eachCam fun c v => v.endPeriod c (means.get c) (Config.dutyChoice s.fresh c)) :=
    .of_steady (.eachCam fun c v => .localTo (v.endPeriod_localTo c _ _))
      (s.eachCam_steady fun c v => v.endPeriod_steady c _ _)
  unfold State.periodEnd
  dsimp only
  generalize (s.eachCam fun c v => v.endPeriod c (means.get c) (Config.dutyChoice s.fresh c)) = w at judged ⊢
  exact judged.trans (.of_steady { Frame.refl _ w with timebase := fun _ => .inl ⟨_, _, rfl⟩ } (.of_same rfl rfl rfl))

theorem Effect.pwmPeriodEnd (means : PerCam Nat) (t : Nat) {s u : State}
    (h : exec (.pwmPeriodEnd means t) s = .next u) : Effect (.pwmPeriodEnd means t) s u := by
  obtain rfl := Host.Outcome.next.inj h
  refine Effect.timed ?_
  dsimp only
  split
  · exact Effect.ite (Effect.periodEnd means t _ _) (.refl _ _)
  · exact .refl _ _

/-! ### The park line -/

section ParkLine

variable {i : Instr}

theorem State.takeAssertion_frame (h : MovesTold i) (c : Cam) (s : State) : Frame i s (s.takeAssertion c) :=
  Frame.trans (u := { s with told := s.told.set c false }) { Frame.refl i s with told := fun _ => h }
    (.localTo (s.takeAssertion_localTo c))

theorem State.hearAssertion_frame (hl : MovesLagging i) (h : MovesTold i) (s : State) : Frame i s s.hearAssertion := by
  have drawn : Frame i s s.drawLagging := { Frame.refl i s with lagging := fun _ => hl }
  exact .ite (.refl i s) (drawn.trans (.eachCam fun c u => .ite (.refl i u) (u.takeAssertion_frame h c)))

theorem Effect.hearAssertion (hl : MovesLagging i) (h : MovesTold i) (s : State) : Effect i s s.hearAssertion :=
  .of_steady (State.hearAssertion_frame hl h s) s.hearAssertion_steady

theorem State.followPark_frame (s : State) : Frame i s s.followPark := by
  rw [State.followPark_eq]
  exact .of_within rfl

theorem Effect.parkLineAssert {s u : State} (h : exec .parkLineAssert s = .next u) : Effect .parkLineAssert s u := by
  obtain rfl := Host.Outcome.next.inj h
  have heard := fun w => Effect.hearAssertion (i := .parkLineAssert) (.inl rfl) (.inl rfl) w
  have fallen : Frame .parkLineAssert s s.fallOfParkn := by
    have pin : ∀ q, Frame .parkLineAssert s { s with parkn := .low, qualification := q } := fun q =>
      { Frame.refl _ s with parkn := fun _ => .inr (.inl rfl) }
    have asserted : ∀ w : State, Frame .parkLineAssert w w.assertLine := fun w =>
      Frame.trans (u := ({ w with parkLine := .asserted, told := .const true }).notify .parkLine)
        { Frame.refl _ w with parkLine := fun _ => .inl rfl, told := fun _ => .inl rfl } (State.followPark_frame _)
    unfold State.fallOfParkn
    split
    · exact pin _
    · dsimp only
      split
      · exact ((pin none).trans (asserted _)).trans (heard _).frame
      · exact (pin none).trans (State.followPark_frame _)
  split
  · exact .of_steady fallen s.fallOfParkn_steady
  · exact heard s

theorem Effect.parknRise (t : Nat) {s u : State} (h : exec (.parknRise t) s = .next u) : Effect (.parknRise t) s u := by
  obtain rfl := Host.Outcome.next.inj h
  have heard := fun w => Effect.hearAssertion (i := .parknRise t) (.inr (.inl ⟨t, rfl⟩)) (.inr (.inl ⟨t, rfl⟩)) w
  have pin : ∀ (w : State) q, Effect (.parknRise t) w { w with parkn := .high, qualification := q } := fun w q =>
    .of_steady { Frame.refl _ w with parkn := fun _ => .inr (.inr ⟨t, rfl⟩) } (.of_same rfl rfl rfl)
  exact Effect.timed (.ite (heard _) (.ite (pin _ _) (pin _ _)))

theorem Frame.releaseLine (t : Nat) (s : State) : Frame (.parkLineRelease t) s s.releaseLine := by
  rw [State.releaseLine_eq]
  exact { Frame.refl _ s with parkLine := fun _ => .inr (.inl ⟨t, rfl⟩) }

theorem Effect.parkLineRelease (t : Nat) {s u : State} (h : exec (.parkLineRelease t) s = .next u) :
    Effect (.parkLineRelease t) s u := by
  obtain rfl := Host.Outcome.next.inj h
  have heard := fun w => Effect.hearAssertion (i := .parkLineRelease t) (.inr (.inr ⟨t, rfl⟩))
    (.inr (.inr (.inl ⟨t, rfl⟩))) w
  have released := fun w => Effect.of_steady (Frame.releaseLine t w) (State.releaseLine_steady w)
  refine Effect.timed ?_
  split
  · exact heard _
  · split
    · exact released _
    · exact .refl _ _

end ParkLine

/-! ### Every command -/

theorem exec_effect {i : Instr} {s u : State} (h : exec i s = .next u) : Effect i s u := by
  cases i with
  | powerOn rstn parkn t => exact .powerOn rstn parkn t h
  | rstn => exact .rstn h
  | readyDelayExpiry t => exact .readyDelayExpiry t h
  | csnFall => exact .csnFall h
  | csnRise sampled t => exact .csnRise sampled t h
  | processingComplete t => exact .processingComplete t h
  | nop => obtain rfl := Host.Outcome.next.inj h; exact .serve fun p => .tame (r := .nop) (.nop p)
  | engineStatus => obtain rfl := Host.Outcome.next.inj h; exact .serve fun p => .tame (r := .engineStatus) (.engineStatus p)
  | camStatus => obtain rfl := Host.Outcome.next.inj h; exact .serve fun p => .tame (r := .camStatus) (.camStatus p)
  | noticeRead => obtain rfl := Host.Outcome.next.inj h; exact .serve fun p => .noticeRead s p
  | noticeMask => obtain rfl := Host.Outcome.next.inj h; exact .serve fun p => .noticeMask s p
  | countersRead => obtain rfl := Host.Outcome.next.inj h; exact .serve fun p => .countersRead s p
  | post => obtain rfl := Host.Outcome.next.inj h; exact .serve fun p => .tame (r := .post) (.inRun (.post p))
  | amend => obtain rfl := Host.Outcome.next.inj h; exact .serve fun p => .tame (r := .amend) (.inRun (.amend p))
  | renew => obtain rfl := Host.Outcome.next.inj h; exact .serve fun p => .tame (r := .renew) (.inRun (.renew p))
  | retire => obtain rfl := Host.Outcome.next.inj h; exact .serve fun p => .tame (r := .retire) (.inRun (.retire p))
  | retireOwner => obtain rfl := Host.Outcome.next.inj h; exact .serve fun p => .tame (r := .retireOwner) (.inRun (.retireOwner p))
  | query => obtain rfl := Host.Outcome.next.inj h; exact .serve fun p => .tame (r := .query) (.inRun (.query p))
  | scan => obtain rfl := Host.Outcome.next.inj h; exact .serve fun p => .tame (r := .scan) (.inRun (.scan p))
  | learn => obtain rfl := Host.Outcome.next.inj h; exact .serve fun p => .tame (r := .learn) (.inRun (.learn p))
  | clearFault => obtain rfl := Host.Outcome.next.inj h; exact .serve fun p => .tame (r := .clearFault) (.inRun (.clearFault p))
  | configWrite => obtain rfl := Host.Outcome.next.inj h; exact .serve fun p => .inConfig (.configWrite s p)
  | configRead => obtain rfl := Host.Outcome.next.inj h; exact .serve fun p => .tame (r := .configRead) (.configRead p)
  | commit t =>
    obtain rfl := Host.Outcome.next.inj h
    exact .timed (.serve fun p => .inConfig (.commit _ p t t))
  | reopen => obtain rfl := Host.Outcome.next.inj h; exact .serve fun p => .inRun (.reopen s p)
  | softReset => exact .softReset h
  | linkLoss t => exact .linkLoss t h
  | crkEdge edge t => exact .crkEdge edge t h
  | stall t => exact .stall t h
  | windowClose c j t => exact .windowClose c j t h
  | camEdge c edge t => exact .camEdge c edge t h
  | overcurrent c mA => exact .overcurrent c mA h
  | pwmPeriodEnd means t => exact .pwmPeriodEnd means t h
  | parkLineAssert => exact .parkLineAssert h
  | parknRise t => exact .parknRise t h
  | parkLineRelease t => exact .parkLineRelease t h
  | rstnRise t => exact .rstnRise t h
  | dutyElapsed c t => exact .dutyElapsed c t h

theorem exec_spares {c : Cam} {i : Instr} {s u : State} (h : exec i s = .next u)
    (own : (∃ e t, i = .camEdge c e t) ∨ (∃ j t, i = .windowClose c j t) ∨ (∃ mA, i = .overcurrent c mA) ∨
      ∃ t, i = .dutyElapsed c t) : Spares c s u := by
  obtain ⟨e, t, rfl⟩ | ⟨j, t, rfl⟩ | ⟨mA, rfl⟩ | ⟨t, rfl⟩ := own
  · obtain rfl | ⟨-, -, spares, -⟩ := EdgeKeeps.exec_camEdge h
    · exact .refl c s
    · exact spares
  all_goals obtain rfl := Host.Outcome.next.inj h
  · exact .timed (.of_localTo (State.interpolatedClose_localTo _ c j t))
  · exact .ite (.of_localTo (s.driverFault_localTo c _ _)) (.refl c s)
  · exact .timed (.ite (.of_localTo (State.setCam_localTo _ c _)) (.refl c _))

/-- Settles O60: by the effect of every command. -/
theorem onlyTheirCommandsChange : Obligations.OnlyTheirCommandsChange := by
  rintro i s u h
  obtain ⟨⟨pending, now, lagging, told, items, mode, mask, tracker, timebase, parkLine, rstn, parkn⟩, -, -, offsets⟩ :=
    exec_effect h
  refine ⟨pending, now, lagging, told, items, mode, mask, tracker, timebase, parkLine, rstn, parkn, offsets,
    fun c b hb own => ?_⟩
  obtain ⟨phaser, loop, channel, arbiter, -⟩ := exec_spares h own b hb
  exact ⟨phaser, loop, channel, arbiter⟩

/-! ### CYCLES -/

theorem Counters.clearGroup_cycles (k : Counters) (g : Group) :
    (k.clearGroup g).cycles = k.cycles ∨ (k.clearGroup g).cycles = 0 := by
  cases g with
  | engine => exact .inr rfl
  | ofCam c => exact .inl rfl
  | link => exact .inl rfl

theorem ownCountersRead_cycles (s : State) (p : List Byte) :
    (ownCountersRead s p).state.counters.cycles = s.counters.cycles ∨
      (ownCountersRead s p).state.counters.cycles = 0 := by
  unfold ownCountersRead
  split
  · split
    next g _ =>
      split
      · exact .inl rfl
      · dsimp only [grant]
        split
        · exact s.counters.clearGroup_cycles g
        · exact .inl rfl
    · exact .inl rfl
  · exact .inl rfl

theorem State.serve_cycles (s : State) (r : Request) {owner : State → List Byte → Reply}
    (h : ∀ p, (owner s p).state.counters.cycles = s.counters.cycles ∨ (owner s p).state.counters.cycles = 0) :
    (s.serve r owner).counters.cycles = s.counters.cycles ∨ (s.serve r owner).counters.cycles = 0 := by
  by_cases hd : ∃ p, s.delivers r p
  · obtain ⟨p, hd⟩ := hd
    rw [State.serve_of_delivers hd]
    exact h p
  · rw [State.serve_of_not fun p hp => hd ⟨p, hp⟩]
    exact .inl rfl

theorem State.at_cycles (s : State) (t : Nat) {event : State → State}
    (h : (event { s with now := t }).counters.cycles = s.counters.cycles ∨
      (event { s with now := t }).counters.cycles = 0) :
    (s.at t event).counters.cycles = s.counters.cycles ∨ (s.at t event).counters.cycles = 0 := by
  unfold State.at
  split
  · exact .inl rfl
  · exact h

/-- A command that may reset the part leaves CYCLES, or 0 there (R181). -/
theorem exec_reset_cycles {i : Instr} {s u : State} (hi : MayReset i) (h : exec i s = .next u) :
    u.counters.cycles = s.counters.cycles ∨ u.counters.cycles = 0 := by
  obtain ⟨a, b, t, rfl⟩ | rfl | ⟨t, rfl⟩ := hi
  all_goals obtain rfl := Host.Outcome.next.inj h
  · exact s.at_cycles t (.inr rfl)
  · split
    · exact .inl rfl
    · exact .inr rfl
  · refine s.at_cycles t ?_
    dsimp only
    split
    · split
      · exact .inl rfl
      · exact .inr rfl
      · exact .inl rfl
    · exact .inl rfl

theorem exec_crkEdge_cycles {edge : Edge} {t : Nat} {s u : State} (h : exec (.crkEdge edge t) s = .next u)
    (hne : u.counters.cycles ≠ s.counters.cycles) : EndsCycle s ∧ Steady s.countCycle u := by
  obtain rfl := Host.Outcome.next.inj h
  unfold State.at at hne ⊢
  split at hne
  · exact absurd rfl hne
  next ht =>
    rw [if_neg ht]
    dsimp only at hne ⊢
    split at hne
    next hedge =>
      rw [if_pos hedge]
      obtain kept | ⟨ends, kept⟩ := State.crankEdge_steady { s with now := t } t
      · exact absurd kept.cycles hne
      · exact ⟨ends, ⟨⟨kept.notices, kept.cycles⟩, kept.offsets⟩⟩
    next => exact absurd rfl hne

/-- Settles O12: by the effect of every command, and by the tooth that is a cycle mark. -/
theorem cyclesCountMarks : Obligations.CyclesCountMarks := by
  intro i s u h hne
  obtain hi | rfl | ⟨edge, t, rfl⟩ | heq := (exec_effect h).cycles
  · refine .inr ⟨(exec_reset_cycles hi h).resolve_left hne, ?_⟩
    obtain hp | hr | hc := hi
    · exact .inr (.inr (.inl hp))
    · exact .inr (.inl hr)
    · exact .inr (.inr (.inr hc))
  · obtain rfl := Host.Outcome.next.inj h
    exact .inr ⟨(s.serve_cycles .countersRead (ownCountersRead_cycles s)).resolve_left hne, .inl rfl⟩
  · obtain ⟨⟨k, y, hy, hhalf, hlast⟩, kept⟩ := exec_crkEdge_cycles h hne
    exact .inl ⟨edge, t, k, y, rfl, hy, hhalf, hlast, kept.cycles⟩
  · exact absurd heq hne

/-! ### The notices -/

theorem and_ne_zero_iff {w : Nat} (a b : BitVec w) :
    a &&& b ≠ 0#w ↔ ∃ n, a.getLsbD n = true ∧ b.getLsbD n = true := by
  constructor
  · intro h
    by_contra none
    refine h (BitVec.eq_of_getLsbD_eq fun n _ => ?_)
    rw [BitVec.getLsbD_and, BitVec.getLsbD_zero, Bool.eq_false_iff]
    exact fun hn => none ⟨n, Bool.and_eq_true_iff.1 hn⟩
  · rintro ⟨n, ha, hb⟩ h
    have bit : (a &&& b).getLsbD n = true := by rw [BitVec.getLsbD_and, ha, hb]; rfl
    rw [h, BitVec.getLsbD_zero] at bit
    cases bit

/-- The notices in the order of their bits (R182). -/
def Notice.byBit : List Notice :=
  [.reset, .engineSynced, .syncLost, .engineStopped, .demandLapsed, .linkLost, .limitConflict, .parkLine,
    .phaserFault .fi, .phaserFault .fe, .phaserFault .ri, .phaserFault .re,
    .learnEnded .fi, .learnEnded .fe, .learnEnded .ri, .learnEnded .re]

theorem Notice.byBit_bit (n : Notice) : Notice.byBit[n.bit]? = some n := by
  cases n with
  | phaserFault c => cases c <;> rfl
  | learnEnded c => cases c <;> rfl
  | _ => rfl

theorem Notice.bit_lt (n : Notice) : n.bit < 16 := (List.getElem?_eq_some_iff.1 n.byBit_bit).1

theorem Notice.bit_injective {n m : Notice} (h : n.bit = m.bit) : n = m :=
  Option.some.inj (n.byBit_bit.symm.trans ((congrArg (Notice.byBit[·]?) h).trans m.byBit_bit))

theorem Notice.exists_bit {b : Nat} (h : b < 16) : ∃ n : Notice, n.bit = b := by
  have bits : Notice.byBit.map Notice.bit = List.range 16 := rfl
  obtain ⟨n, -, hn⟩ := List.mem_map.1 (bits.symm ▸ List.mem_range.2 h)
  exact ⟨n, hn⟩

theorem State.attnLow_iff (s : State) :
    s.attnLow = true ↔ s.rstn = .high ∧ ∃ n : Notice, s.noticeSet n = true ∧ s.mask.getLsbD n.bit = true := by
  unfold State.attnLow State.noticePending
  rw [Bool.and_eq_true_iff, decide_eq_true_iff, decide_eq_true_iff, and_ne_zero_iff]
  refine and_congr_right fun _ => ⟨fun ⟨b, hn, hm⟩ => ?_, fun ⟨n, hn, hm⟩ => ⟨n.bit, hn, hm⟩⟩
  obtain ⟨n, rfl⟩ := Notice.exists_bit (BitVec.lt_of_getLsbD hn)
  exact ⟨n, hn, hm⟩

theorem noticeRead_cleared {s u : State} {n : Notice} (h : exec .noticeRead s = .next u) (hset : s.noticeSet n = true)
    (hclear : u.noticeSet n = false) : s.delivers .noticeRead [] := by
  obtain rfl := Host.Outcome.next.inj h
  by_contra hd
  refine absurd (hset.symm.trans (Eq.trans ?_ hclear)) nofun
  by_cases hp : ∃ p, s.delivers .noticeRead p
  · obtain ⟨p, hp⟩ := hp
    rw [State.serve_of_delivers hp]
    cases p with
    | nil => exact absurd hp hd
    | cons b p => rfl
  · rw [State.serve_of_not fun p hq => hp ⟨p, hq⟩]

/-- Settles O59: by the effect of every command, and by NOTICE_READ. -/
theorem noticesLatch : Obligations.NoticesLatch := by
  refine ⟨State.attnLow_iff, fun n m => ⟨n.bit_lt, Notice.bit_injective⟩, fun i s u n h hset hclear => ?_⟩
  obtain hi | rfl | keeps := (exec_effect h).notices
  · exact .inl hi
  · have hd := noticeRead_cleared h hset hclear
    obtain rfl := Host.Outcome.next.inj h
    refine .inr ⟨rfl, hd, ?_⟩
    rw [State.serve_of_delivers hd]
    rfl
  · rw [keeps n hset] at hclear
    cases hclear

end Sys2Proof.Machine

/-! ## Resets and responses (09) -/

namespace Sys2Proof.Machine

/-! ### Resets -/

theorem Counters.reset_get (k : Counter) : Counters.reset.get k = 0 := by
  cases k with
  | ofCam c i => cases c <;> cases i <;> rfl
  | _ => rfl

theorem lineOf_asserted_iff (l : Level) : lineOf l = .asserted ↔ l = .low := by
  cases l with
  | low => exact ⟨fun _ => rfl, fun _ => rfl⟩
  | high => exact ⟨nofun, nofun⟩

theorem State.resetBlocks_cam (s : State) (cause : ResetCause) (ended : Option Nat) (c : Cam) :
    (s.resetBlocks cause ended).cam c = .reset := PerCam.get_const _ _

theorem State.resetBlocks_afterReset (s : State) (cause : ResetCause) (ended : Option Nat) :
    (s.resetBlocks cause ended).AfterReset cause ended :=
  ⟨rfl, rfl, rfl, rfl, rfl, rfl, rfl, lineOf_asserted_iff _, rfl, rfl, rfl, Counters.reset_get, rfl, rfl, rfl, rfl, rfl,
    rfl, rfl, rfl, rfl, rfl, fun c => by rw [State.resetBlocks_cam]; exact ⟨rfl, rfl, rfl, rfl, rfl⟩⟩

/-- The ready delay is 2 ms (R171). -/
theorem exec_readyDelayExpiry_eq {s : State} {t : Nat} (ht : s.now ≤ t) :
    exec (.readyDelayExpiry t) s = .next (if s.link.readyFrom.any (fun t0 => expired t0 (msTicks 2) t) = true then
      { s with
        now := t
        link := { s.link with
          ready := true, readyFrom := none, response := { s.link.response with summary := some s.summary } } }
      else { s with now := t }) :=
  congrArg Host.Outcome.next (State.at_of_le ht _)

/-- Settles O57: by what a reset restores. -/
theorem resetsRestoreEveryBlock : Obligations.ResetsRestoreEveryBlock := by
  refine fun s t ht => ⟨fun rstn parkn => ?_, fun hr => ?_, fun hr => ⟨?_, ?_⟩, fun hr => ?_, fun t0 h0 => ?_⟩
  · refine ⟨_, congrArg Host.Outcome.next (State.at_of_le ht _), rfl, rfl, rfl, ?_⟩
    cases rstn with
    | high => exact State.resetBlocks_afterReset _ _ _
    | low => exact State.resetBlocks_afterReset _ _ _
  · refine ⟨({ s with rstn := .low }).resetBlocks .pin none, ?_, rfl, rfl, rfl, State.resetBlocks_afterReset _ _ _, rfl⟩
    exact congrArg Host.Outcome.next (if_neg (by rw [hr]; nofun))
  · exact congrArg Host.Outcome.next (if_pos hr)
  · refine congrArg Host.Outcome.next ((State.at_of_le ht _).trans (Eq.trans (if_neg ?_) ?_))
    · exact fun h => absurd (hr.symm.trans h) nofun
    · cases hp : s.parkn <;> rfl
  · exact congrArg Host.Outcome.next ((State.at_of_le ht _).trans (if_pos hr))
  · rw [exec_readyDelayExpiry_eq ht]
    have ready : s.link.readyFrom.any (fun t0 => expired t0 (msTicks 2) t) = true ↔ t0 + 20000 ≤ t := by
      rw [timer_expired_iff, h0]
      exact ⟨fun ⟨x, hx, hle⟩ => by cases hx; exact hle, fun hle => ⟨t0, rfl, hle⟩⟩
    constructor
    · intro early
      rw [if_neg (mt ready.1 (Nat.not_le.2 early))]
    · intro late
      rw [if_pos (ready.2 late)]

/-! ### Responses -/

theorem Response.clocked_of_le {r : Response} {n : Nat} (h : n ≤ r.bytes.length) : r.clocked n = r.bytes.take n :=
  List.take_append_of_le_length h

theorem Response.clocked_beyond (r : Response) (n : Nat) :
    r.clocked (r.bytes.length + n) = r.bytes ++ List.replicate n 0#8 := by
  rw [Response.clocked, List.take_append, List.take_of_length_le (Nat.le_add_right _ _), Nat.add_sub_cancel_left,
    List.take_replicate, Nat.min_eq_left (Nat.le_add_left _ _)]

theorem State.summary_toNat (s : State) :
    s.summary.toNat = s.mode.code + 2 * s.tracker.sync.code + 8 * s.parkLine.code + 16 * s.noticePending.toNat := by
  have mode : s.mode.code ≤ 1 := by cases s.mode <;> decide
  have sync : s.tracker.sync.code ≤ 3 := by cases s.tracker.sync <;> exact of_decide_eq_true rfl
  have line : s.parkLine.code ≤ 1 := by cases s.parkLine <;> decide
  have notice := s.noticePending.toNat_le
  rw [State.summary, BitVec.toNat_ofNat]
  omega

theorem Mode.code_eq (m : Mode) : m.code = if m = .run then 1 else 0 := by cases m <;> rfl

theorem ParkLine.code_eq (l : ParkLine) : 8 * l.code = if l = .asserted then 8 else 0 := by cases l <;> rfl

theorem State.noticePending_eq (s : State) :
    16 * s.noticePending.toNat = if s.notices &&& s.mask = 0#16 then 0 else 16 := by
  unfold State.noticePending
  by_cases h : s.notices &&& s.mask = 0#16
  · rw [if_pos h, decide_eq_false (not_not_intro h)]
    rfl
  · rw [if_neg h, decide_eq_true h]
    rfl

theorem exec_processingComplete_of_busy {s : State} {t t0 : Nat} (ht : s.now ≤ t) (hbusy : s.link.busy = true)
    (hrise : s.link.riseAt = some t0) (hlast : t ≤ t0 + 200) {u : State}
    (h : (match s.link.answer with
      | some (.response echo result payload) => { s with
          now := t
          link := { s.link with
            response := ⟨echo, result, some s.summary, payload⟩, delivery := .waiting
            busy := false, riseAt := none, answer := none } }
      | some .softReset => ({ s with now := t }).resetBlocks .soft (some t)
      | none => { s with now := t }) = u) :
    exec (.processingComplete t) s = .next u := by
  have processing : s.link.busy = true ∧ inProcessing s.link.riseAt t = true :=
    ⟨hbusy, by rw [hrise]; exact decide_eq_true hlast⟩
  rw [← h]
  exact congrArg Host.Outcome.next ((State.at_of_le ht _).trans (if_pos processing))

/-- Settles O56: case by case of the answer in hand. -/
theorem processingFormsTheResponse : Obligations.ProcessingFormsTheResponse := by
  refine fun s t ht => ⟨?_, rfl, ?_, fun hb => ?_, fun t0 hb hr hl => ⟨fun e x p ha => ?_, fun ha => ?_⟩, fun hd => ?_,
    fun p hd hp => ?_⟩
  · rintro r summary body hs rfl
    refine ⟨?_, fun n => ⟨Response.clocked_of_le, r.clocked_beyond n⟩⟩
    rw [Response.bytes, hs]
    rfl
  · rw [State.summary_toNat, Mode.code_eq, ParkLine.code_eq, State.noticePending_eq]
    cases s.tracker.sync <;> rfl
  · refine congrArg Host.Outcome.next ((State.at_of_le ht _).trans (if_neg fun h => ?_))
    exact absurd (hb.symm.trans h.1) nofun
  · refine exec_processingComplete_of_busy ht hb hr hl ?_
    rw [ha]
  · refine ⟨_, exec_processingComplete_of_busy ht hb hr hl ?_,
      State.resetBlocks_afterReset { s with now := t } _ _, rfl, rfl, rfl⟩
    rw [ha]
  · exact congrArg Host.Outcome.next (if_pos hd)
  · refine congrArg Host.Outcome.next ((if_neg fun h => ?_).trans (State.serve_of_delivers hd _))
    rw [hd] at h
    exact hp (Delivered.mk.inj (Option.some.inj h)).2

end Sys2Proof.Machine

/-! ## The status requests (R169, R174 to R182) -/

namespace Sys2Proof.Machine

/-! ### Bytes and codes -/

theorem be16s_eq (i : Int) : be16s i = be16 (BitVec.ofInt 16 i).toNat := by
  rw [be16s, BitVec.toNat_ofInt]
  rfl

theorem CauseSet.byte_bits (x : CauseSet) :
    x.byte.toNat < 32 ∧ x.byte.getLsbD 0 = x.signal ∧ x.byte.getLsbD 1 = x.overcurrent ∧
      x.byte.getLsbD 2 = x.openLoad ∧ x.byte.getLsbD 3 = x.stuck ∧ x.byte.getLsbD 4 = x.following := by
  obtain ⟨signal, overcurrent, openLoad, stuck, following⟩ := x
  revert signal overcurrent openLoad stuck following
  decide

theorem ofNat_fromBe16 (hi lo : Byte) : BitVec.ofNat 16 (fromBe16 hi lo) = hi ++ lo := by
  apply BitVec.eq_of_toNat_eq
  rw [BitVec.toNat_ofNat, BitVec.toNat_append, ← Nat.shiftLeft_add_eq_or_of_lt lo.isLt, Nat.shiftLeft_eq]
  exact Nat.mod_eq_of_lt (fromBe16_lt hi lo)

/-! ### The counter groups -/

/-- A group's number in a COUNTERS_READ (R180). -/
def Group.number : Group → Nat
  | .engine => 0
  | .ofCam c => c.index + 1
  | .link => 5

theorem groupOf_number (g : Group) : groupOf g.number = some g := by
  cases g with
  | ofCam c => cases c <;> rfl
  | _ => rfl

theorem groupOf_of_lt {n : Nat} (h : 5 < n) : groupOf n = none := by
  obtain ⟨m, rfl⟩ := Nat.exists_eq_add_of_lt h
  rw [show 5 + m + 1 = m + 6 by omega]
  rfl

theorem Group.number_eq {g : Group} {group : Byte}
    (h : (g = .engine ∧ group = 0#8) ∨ (g = .link ∧ group = 5#8) ∨ ∃ c, g = .ofCam c ∧ group.toNat = c.index + 1) :
    group.toNat = g.number := by
  obtain ⟨rfl, rfl⟩ | ⟨rfl, rfl⟩ | ⟨c, rfl, h⟩ := h
  · rfl
  · rfl
  · exact h

theorem ownCountersRead_of_error (s : State) {group flag : Byte} (h : 5 < group.toNat ∨ 1 < flag.toNat) :
    ownCountersRead s [group, flag] = refuse s .badField := by
  unfold ownCountersRead
  dsimp only
  split
  next g hg =>
    rw [if_pos (h.resolve_left fun hlt => ?_)]
    rw [groupOf_of_lt hlt] at hg
    cases hg
  next => rfl

theorem ownCountersRead_of_group (s : State) {g : Group} {group flag : Byte} (hg : group.toNat = g.number)
    (hflag : ¬ 1 < flag.toNat) :
    ownCountersRead s [group, flag] =
      grant (if flag.toNat = 1 then { s with counters := s.counters.clearGroup g } else s)
        (s.counters.groupPayload g) := by
  unfold ownCountersRead
  dsimp only
  rw [hg, groupOf_number]
  exact if_neg hflag

/-! ### The owners' replies -/

theorem ownCamStatus_of_cam (s : State) {b : Byte} {c : Cam} (h : b.toNat = c.index) :
    ownCamStatus s [b] = ⟨s.drawFor (s.cam c).channel.mean, .ok,
      camStatusPayload (s.cam c) (s.cfg c) (Config.sensedCurrent s.fresh c)⟩ := by
  unfold ownCamStatus
  dsimp only
  rw [camOfIndex_eq_some.2 h]

theorem ownCamStatus_of_error (s : State) {b : Byte} (h : 3 < b.toNat) : ownCamStatus s [b] = refuse s .badField := by
  unfold ownCamStatus
  dsimp only
  rw [camOfIndex_eq_none.2 h]

theorem MeanCurrent.report_of_measured {m : MeanCurrent} {mA : Nat} (h : m = .measured mA) (sensed : Nat) :
    m.report sensed = mA := by rw [h]; rfl

theorem MeanCurrent.report_le {m : MeanCurrent} (h : m = .asSensed) (sensed : Nat) : m.report sensed ≤ 3000 := by
  rw [h]
  exact Nat.min_le_right _ _

theorem State.drawFor_eq (s : State) (m : MeanCurrent) : s.drawFor m = { s with fresh := (s.drawFor m).fresh } := by
  cases m <;> rfl

theorem engineStatusPayload_eq (s : State) :
    engineStatusPayload s =
      [(if s.mode = .run then 1#8 else 0#8),
        (match s.tracker.sync with
          | .stopped => 0#8 | .seeking _ => 1#8 | .crankSync _ => 2#8 | .engineSync _ _ => 3#8)]
        ++ be16 s.tracker.speed ++ be32 s.counters.cycles
        ++ [(if s.parkLine = .asserted then 1#8 else 0#8),
          u8 ((s.cam .fi).arbiter.suppressed.toNat + 2 * (s.cam .fe).arbiter.suppressed.toNat
            + 4 * (s.cam .ri).arbiter.suppressed.toNat + 8 * (s.cam .re).arbiter.suppressed.toNat)] := by
  have mode : u8 s.mode.code = if s.mode = .run then 1#8 else 0#8 := by cases s.mode <;> rfl
  have line : u8 s.parkLine.code = if s.parkLine = .asserted then 1#8 else 0#8 := by cases s.parkLine <;> rfl
  rw [engineStatusPayload, mode, line]
  cases s.tracker.sync <;> rfl

theorem exec_countersRead_of_group {s : State} {g : Group} {group flag : Byte}
    (hd : s.delivers .countersRead [group, flag]) (hg : group.toNat = g.number) :
    (flag = 0#8 → exec .countersRead s = .next (s.answered .countersRead .ok (s.counters.groupPayload g))) ∧
    (flag = 1#8 → exec .countersRead s =
      .next (({ s with counters := s.counters.clearGroup g }).answered .countersRead .ok (s.counters.groupPayload g))) := by
  have served : exec .countersRead s = .next _ := congrArg Host.Outcome.next (State.serve_of_delivers hd ownCountersRead)
  constructor
  · rintro rfl
    rw [served, ownCountersRead_of_group s hg (by decide), if_neg (by decide)]
    rfl
  · rintro rfl
    rw [served, ownCountersRead_of_group s hg (by decide), if_pos (by decide)]
    rfl

theorem exec_of_badLength {s : State} {r : Request} {p : List Byte} (hd : s.delivers r p)
    (h : ((r = .nop ∨ r = .engineStatus ∨ r = .noticeRead) ∧ p ≠ []) ∨ (r = .camStatus ∧ p.length ≠ 1) ∨
      ((r = .noticeMask ∨ r = .countersRead) ∧ p.length ≠ 2)) :
    exec (r.command s.now) s = .next (s.answered r .badLength []) := by
  have refused : ∀ owner : State → List Byte → Reply, owner s p = refuse s .badLength →
      s.serve r owner = s.answered r .badLength [] := fun owner howner => by
    rw [State.serve_of_delivers hd, howner]
    rfl
  obtain ⟨rfl | rfl | rfl, hp⟩ | ⟨rfl, hp⟩ | ⟨rfl | rfl, hp⟩ := h
  · refine congrArg Host.Outcome.next (refused ownNop ?_)
    match p, hp with
    | _ :: _, _ => rfl
  · refine congrArg Host.Outcome.next (refused ownEngineStatus ?_)
    match p, hp with
    | _ :: _, _ => rfl
  · refine congrArg Host.Outcome.next (refused ownNoticeRead ?_)
    match p, hp with
    | _ :: _, _ => rfl
  · refine congrArg Host.Outcome.next (refused ownCamStatus ?_)
    match p, hp with
    | [], _ => rfl
    | _ :: _ :: _, _ => rfl
  · refine congrArg Host.Outcome.next (refused ownNoticeMask ?_)
    match p, hp with
    | [], _ => rfl
    | [_], _ => rfl
    | _ :: _ :: _ :: _, _ => rfl
  · refine congrArg Host.Outcome.next (refused ownCountersRead ?_)
    match p, hp with
    | [], _ => rfl
    | [_], _ => rfl
    | _ :: _ :: _ :: _, _ => rfl

theorem exec_noticeMask_of_delivers {s : State} {hi lo : Byte} (hd : s.delivers .noticeMask [hi, lo]) :
    exec .noticeMask s = .next (({ s with mask := hi ++ lo }).answered .noticeMask .ok [hi, lo]) := by
  have payload : be16 (BitVec.ofNat 16 (fromBe16 hi lo)).toNat = [hi, lo] := by
    rw [BitVec.toNat_ofNat, Nat.mod_eq_of_lt (fromBe16_lt hi lo), be16_fromBe16]
  have reply : ownNoticeMask s [hi, lo] = grant { s with mask := hi ++ lo } [hi, lo] := by
    unfold ownNoticeMask
    dsimp only
    rw [payload, ofNat_fromBe16]
  refine congrArg Host.Outcome.next ((State.serve_of_delivers hd _).trans ?_)
  rw [reply]
  rfl

/-- Settles O58: request by request. -/
theorem statusRequestsReport : Obligations.StatusRequestsReport := by
  intro s
  refine ⟨fun _ => ⟨rfl, rfl⟩, fun i _ _ => be16s_eq i, rfl, CauseSet.byte_bits, fun _ => ⟨rfl, rfl⟩, rfl, fun hd => ?_,
    fun hd => ?_, fun b hd hb => ?_, fun b c k hd hb hk => ?_, fun hd => ?_, fun hi lo hd => exec_noticeMask_of_delivers hd,
    fun group flag hd => ⟨fun herr => ?_, fun g hg payload hpayload => ?_⟩, fun r p hd h => exec_of_badLength hd h⟩
  · exact congrArg Host.Outcome.next (State.serve_of_delivers hd _)
  · refine congrArg Host.Outcome.next ((State.serve_of_delivers hd _).trans ?_)
    refine Eq.trans (congrArg (s.answered .engineStatus .ok) (engineStatusPayload_eq s)) ?_
    cases s.tracker.sync <;> rfl
  · refine congrArg Host.Outcome.next ((State.serve_of_delivers hd _).trans ?_)
    rw [ownCamStatus_of_error s hb]
    rfl
  · subst hk
    refine ⟨(s.cam c).channel.mean.report (Config.sensedCurrent s.fresh c), (s.drawFor (s.cam c).channel.mean).fresh,
      fun m hm => ⟨MeanCurrent.report_of_measured hm _, by rw [hm]; rfl⟩, fun hm => MeanCurrent.report_le hm _, ?_⟩
    refine congrArg Host.Outcome.next ((State.serve_of_delivers hd _).trans ?_)
    rw [ownCamStatus_of_cam s hb]
    dsimp only
    rw [State.drawFor_eq]
    unfold camStatusPayload Arbiter.activeSlew
    cases (s.cam c).arbiter.slewCap <;> rfl
  · exact congrArg Host.Outcome.next (State.serve_of_delivers hd _)
  · refine congrArg Host.Outcome.next ((State.serve_of_delivers hd _).trans ?_)
    rw [ownCountersRead_of_error s herr]
    rfl
  · have laid : payload = s.counters.groupPayload g := by
      rw [hpayload]
      cases g <;> rfl
    rw [laid]
    obtain ⟨kept, cleared⟩ := exec_countersRead_of_group hd (Group.number_eq hg)
    refine ⟨kept, fun hflag => (cleared hflag).trans ?_⟩
    cases g <;> rfl

end Sys2Proof.Machine

/-! ## Transactions and frames (R161 to R168) -/

namespace Sys2Proof.Machine

/-! ### Bits and bytes -/

theorem byteOfBits_of_byte (b : Byte) :
    byteOfBits (b.getLsbD 7) (b.getLsbD 6) (b.getLsbD 5) (b.getLsbD 4) (b.getLsbD 3) (b.getLsbD 2) (b.getLsbD 1)
      (b.getLsbD 0) = b := by
  have bit : ∀ i, (b.getLsbD i).toNat = b.toNat / 2 ^ i % 2 := fun i => Nat.toNat_testBit b.toNat i
  have := b.isLt
  apply BitVec.eq_of_toNat_eq
  unfold byteOfBits
  rw [bit, bit, bit, bit, bit, bit, bit, bit, u8_toNat (by omega)]
  omega

theorem assemble_of_short {bits : List Bool} (h : bits.length < 8) : assemble bits = [] := by
  unfold assemble
  split
  · simp only [List.length_cons] at h
    omega
  · rfl

theorem assemble_bytes (p : List Byte) {rest : List Bool} (h : rest.length < 8) :
    assemble (p.flatMap bitsOf ++ rest) = p := by
  induction p with
  | nil => exact assemble_of_short h
  | cons b p ih =>
    have front : assemble ((b :: p).flatMap bitsOf ++ rest) = _ :: assemble (p.flatMap bitsOf ++ rest) := rfl
    rw [front, ih, byteOfBits_of_byte]

theorem crcBit_eq (reg : Byte) (bit : Bool) :
    crcBit reg bit = if reg.getLsbD 7 = bit then reg <<< 1 else (reg <<< 1) ^^^ 0x2F#8 := by
  rw [crcBit, BitVec.msb_eq_getLsbD_last]

theorem crc8_eq (p : List Byte) :
    crc8 p = (p.flatMap bitsOf).foldl
      (fun (r : Byte) (bit : Bool) => if r.getLsbD 7 = bit then r <<< 1 else (r <<< 1) ^^^ 0x2F#8) 0xFF#8 := by
  have step : (fun (r : Byte) (bit : Bool) => if r.getLsbD 7 = bit then r <<< 1 else (r <<< 1) ^^^ 0x2F#8) = crcBit :=
    funext fun r => funext fun bit => (crcBit_eq r bit).symm
  rw [step, List.foldl_flatMap]
  rfl

/-! ### The judgement of a frame -/

theorem Request.ofCode_eq_none {cmd : Byte} (h : ∀ r : Request, r.code ≠ cmd) : Request.ofCode cmd = none :=
  List.find?_eq_none.2 fun r _ hr => h r (beq_iff_eq.1 hr)

theorem judgeFrame_of_long {cmd len : Byte} (rest : List Byte) (h : 40 < len.toNat) :
    judgeFrame (cmd :: len :: rest) = .answered cmd .badLength none false := if_pos h

theorem judgeFrame_of_short {bytes : List Byte}
    (h : bytes.length < 2 ∨ ∃ cmd len rest, bytes = cmd :: len :: rest ∧ len.toNat ≤ 40 ∧
      rest.length < len.toNat + 1) :
    judgeFrame bytes = .answered 0xFF .frameError (some .frameErrors) false := by
  obtain h | ⟨cmd, len, rest, rfl, hlen, hrest⟩ := h
  · match bytes, h with
    | [], _ => rfl
    | [_], _ => rfl
  · exact (if_neg (Nat.not_lt.2 hlen)).trans (if_pos hrest)

theorem judgeFrame_of_badCrc {cmd len crc : Byte} {p : List Byte} (extra : List Byte) (hlen : len.toNat ≤ 40)
    (hp : p.length = len.toNat) (hcrc : crc ≠ crc8 (cmd :: len :: p)) :
    judgeFrame (cmd :: len :: (p ++ crc :: extra)) = .answered 0xFF .crcError (some .crcErrors) false := by
  have long : ¬ (p ++ crc :: extra).length < len.toNat + 1 := by
    rw [List.length_append, List.length_cons]
    omega
  have payload : (p ++ crc :: extra).take len.toNat = p := by rw [← hp, List.take_left]
  have last : ((p ++ crc :: extra).drop len.toNat).head? = some crc := by rw [← hp, List.drop_left]; rfl
  refine (if_neg (Nat.not_lt.2 hlen)).trans ((if_neg long).trans (if_pos ?_))
  rw [payload, last]
  exact fun h => hcrc (Option.some.inj h)

theorem judgeFrame_of_known {bytes : List Byte} {r : Request} {p extra : List Byte} (hp : p.length ≤ 40)
    (h : bytes = requestFrame r.code p ++ extra) : judgeFrame bytes = .delivered r p := by
  rw [h, judgeFrame_requestFrame _ _ _ hp, Request.ofCode_code]

theorem judgeFrame_of_unknown {bytes : List Byte} {cmd : Byte} {p extra : List Byte} (hp : p.length ≤ 40)
    (h : bytes = requestFrame cmd p ++ extra) (hcmd : ∀ r : Request, r.code ≠ cmd) :
    judgeFrame bytes = .answered cmd .unknown none true := by
  rw [h, judgeFrame_requestFrame _ _ _ hp, Request.ofCode_eq_none hcmd]

/-! ### The rise of CSN -/

/-- The link as a transaction that is not LATE has ended, before its frame is judged (R161, R166). -/
def Link.ended (l : Link) (bytes : List Byte) (t : Nat) : Link :=
  { l with
    transaction := .idle, received := bytes.take 43, clockedOut := l.response.clocked bytes.length
    delivery := if l.response.payload.length + 5 ≤ bytes.length then .delivered else .lost
    busy := true, riseAt := some t }

theorem State.endOpened_eq (s : State) (bytes : List Byte) (t : Nat) :
    s.endOpened bytes t =
      (({ s with link := (s.link.ended bytes t).dispose (judgeFrame bytes) }).countVerdict
        (judgeFrame bytes)).restartTimer (judgeFrame bytes) t := by
  unfold State.endOpened Link.ended
  dsimp only
  rw [Response.bytes_length]

theorem exec_csnRise_of_opened {s : State} {sampled : List Bool} {t : Nat} (ht : s.now ≤ t)
    (h : s.link.transaction = .opened) :
    exec (.csnRise sampled t) s =
      .next ((({ s with now := t, link := (s.link.ended (assemble sampled) t).dispose (judgeFrame (assemble sampled)) }
        ).countVerdict (judgeFrame (assemble sampled))).restartTimer (judgeFrame (assemble sampled)) t) := by
  refine congrArg Host.Outcome.next ((State.at_of_le ht _).trans (Eq.trans ?_ (State.endOpened_eq { s with now := t } _ t)))
  dsimp only
  rw [h]

/-- A frame discarded is answered and counted, and does not restart the link timer (R163, R173). -/
theorem exec_csnRise_of_discarded {s : State} {sampled : List Bool} {t : Nat} (ht : s.now ≤ t)
    (h : s.link.transaction = .opened) {echo : Byte} {result : Result} {k : Counter}
    (hv : judgeFrame (assemble sampled) = .answered echo result (some k) false) :
    exec (.csnRise sampled t) s = .next (({ s with
      now := t
      link := { s.link.ended (assemble sampled) t with
        answer := some (.response echo result []), delivered := none } }).count k) := by
  rw [exec_csnRise_of_opened ht h, hv]
  exact congrArg Host.Outcome.next (if_neg fun hn => absurd hn.1 nofun)

/-- A frame taken restarts the link timer in RUN (R173). -/
theorem exec_csnRise_of_taken {s : State} {sampled : List Bool} {t : Nat} (ht : s.now ≤ t)
    (h : s.link.transaction = .opened) {v : Verdict} (hv : judgeFrame (assemble sampled) = v) (htaken : v.taken = true)
    (hcount : ∀ u : State, u.countVerdict v = u) :
    exec (.csnRise sampled t) s = .next { s with
      now := t
      link := { s.link.ended (assemble sampled) t with
        answer := ((s.link.ended (assemble sampled) t).dispose v).answer
        delivered := ((s.link.ended (assemble sampled) t).dispose v).delivered
        timer := if s.mode = .run then some t else s.link.timer } } := by
  rw [exec_csnRise_of_opened ht h, hv, hcount, State.restartTimer]
  by_cases hm : s.mode = .run
  · rw [if_pos ⟨htaken, hm⟩, if_pos hm]
    cases v <;> rfl
  · rw [if_neg fun hn => hm hn.2, if_neg hm]
    cases v <;> rfl

theorem Link.sdo_iff (l : Link) (r : Response) :
    l.sdo = some r ↔ l.ready = true ∧ (l.transaction = .late r ∨ l.transaction = .opened ∧ r = l.response) := by
  unfold Link.sdo
  cases l.transaction with
  | idle => simp
  | ignored => simp
  | late q => cases l.ready <;> simp
  | opened => cases l.ready <;> simp [eq_comm]

/-- Settles O55: the bits, the fall and the rise of CSN, and each verdict on a frame. -/
theorem framesAreJudged : Obligations.FramesAreJudged := by
  rintro s sampled bytes t l taken ht rfl rfl rfl
  refine ⟨fun p rest h => assemble_bytes p h, crc8_eq, s.link.sdo_iff, fun hidle => ⟨?_, ?_⟩, fun hbusy => ?_,
    fun hignored => ?_, fun r hlate => ?_, fun hopen => ⟨fun r p extra hp hb => ?_, fun cmd p extra hp hb hcmd => ?_,
      fun cmd len rest hb hlen => ?_, fun hshort => ?_, fun cmd len crc p extra hlen hp hb hcrc => ?_⟩⟩
  · refine congrArg Host.Outcome.next ?_
    rw [hidle]
    cases hready : s.link.ready <;> cases hbusy : s.link.busy <;> rfl
  · refine congrArg Host.Outcome.next ((State.at_of_le ht _).trans ?_)
    dsimp only
    rw [hidle]
  · refine congrArg Host.Outcome.next ?_
    cases htrans : s.link.transaction with
    | idle => exact absurd htrans hbusy
    | _ => rfl
  · refine congrArg Host.Outcome.next ((State.at_of_le ht _).trans ?_)
    dsimp only
    rw [hignored]
  · refine congrArg Host.Outcome.next ((State.at_of_le ht _).trans ?_)
    dsimp only
    rw [hlate]
    rfl
  · exact exec_csnRise_of_taken ht hopen (judgeFrame_of_known hp hb) rfl fun _ => rfl
  · exact exec_csnRise_of_taken ht hopen (judgeFrame_of_unknown hp hb hcmd) rfl fun _ => rfl
  · rw [exec_csnRise_of_opened ht hopen, hb, judgeFrame_of_long rest hlen]
    exact congrArg Host.Outcome.next (if_neg fun hn => absurd hn.1 nofun)
  · exact (exec_csnRise_of_discarded ht hopen (judgeFrame_of_short hshort)).trans rfl
  · have judged : judgeFrame (assemble sampled) = .answered 0xFF .crcError (some .crcErrors) false := by
      rw [hb, judgeFrame_of_badCrc extra hlen hp hcrc]
    exact (exec_csnRise_of_discarded ht hopen judged).trans rfl

end Sys2Proof.Machine

/-! ## What a cycle mark makes of the demand table (R47, R60) -/

namespace Sys2Proof.Machine

/-! ### A slot up to its outcomes -/

/-- A slot without the outcomes of its record. -/
def Slot.bare (x : Slot) : Nat × Option Record := (x.generation, x.record.map Record.withdraw)

theorem Slot.bare_of_none {x z : Slot} (h : z.bare = x.bare) (hx : x.record = none) : z = x := by
  obtain ⟨generation, record⟩ := Prod.mk.inj h
  obtain ⟨g, r⟩ := z
  obtain ⟨g', r'⟩ := x
  dsimp only at hx generation record
  subst hx generation
  rw [Option.map_none, Option.map_eq_none_iff] at record
  rw [record]

theorem Record.eq_of_withdraw {r q : Record} (h : q.withdraw = r.withdraw) : q = { r with outcomes := q.outcomes } := by
  obtain ⟨⟩ := r
  obtain ⟨⟩ := q
  cases h
  rfl

theorem Slot.bare_of_some {x z : Slot} {r : Record} (h : z.bare = x.bare) (hx : x.record = some r) :
    ∃ o, z = ⟨x.generation, some { r with outcomes := o }⟩ := by
  obtain ⟨generation, record⟩ := Prod.mk.inj h
  rw [hx, Option.map_some, Option.map_eq_some_iff] at record
  obtain ⟨q, hq, same⟩ := record
  refine ⟨q.outcomes, ?_⟩
  rw [← generation, ← Record.eq_of_withdraw same, ← hq]

/-- The countdown of a slot reads its record up to the outcomes, and leaves those of a record that stays. -/
theorem Slot.bare_countDown {x z : Slot} (h : z.bare = x.bare) : z.countDown.bare = x.countDown.bare := by
  cases hx : x.record with
  | none => rw [Slot.bare_of_none h hx]
  | some r =>
    obtain ⟨o, rfl⟩ := Slot.bare_of_some h hx
    obtain ⟨g, q⟩ := x
    dsimp only at hx
    subst hx
    have lapses : Record.lapses { r with outcomes := o } = r.lapses := rfl
    unfold Slot.countDown
    dsimp only
    rw [lapses]
    split
    · rfl
    · unfold Record.countDown
      dsimp only
      split <;> rfl

theorem Slot.countDown_of_free {x : Slot} (h : x.record = none) : x.countDown = x := by
  unfold Slot.countDown
  rw [h]

theorem Slot.countDown_of_lapse {x : Slot} {r : Record} (h : x.record = some r) (hlife : r.lifetime ≠ 0)
    (hlast : r.remaining ≤ 1) : x.countDown = ⟨(x.generation + 1) % 8, none⟩ := by
  unfold Slot.countDown Slot.retire
  rw [h]
  exact if_pos (decide_eq_true ⟨hlife, hlast⟩)

theorem Slot.countDown_of_stay {x : Slot} {r : Record} (h : x.record = some r)
    (hstay : r.lifetime = 0 ∨ 1 < r.remaining) :
    x.countDown = ⟨x.generation, some { r with
      remaining := if r.lifetime = 0 then r.remaining else r.remaining - 1 }⟩ := by
  have stays : ¬ r.lapses = true := fun hl => by
    obtain ⟨hlife, hlast⟩ := of_decide_eq_true hl
    omega
  unfold Slot.countDown
  rw [h]
  refine Eq.trans (if_neg stays) ?_
  unfold Record.countDown
  split <;> rfl

/-! ### What a cam's closes and cycle marks are made of -/

/-- A relation that holds of what changes a cam's blocks and of its fault reports. -/
structure CamRelation (c : Cam) (R : State → State → Prop) : Prop where
  refl : ∀ s, R s s
  trans : ∀ {s u v : State}, R s u → R u v → R s v
  setCam : ∀ (s : State) (k : CamState), R s (s.setCam c k)
  reportFault : ∀ (s : State) (cause : Cause), R s (s.reportFault c cause)

/-- Such a relation that holds of the count of a miss too. -/
structure CloseRelation (c : Cam) (R : State → State → Prop) : Prop extends CamRelation c R where
  count : ∀ s : State, R s (s.count (.ofCam c .missed))

namespace CamRelation

variable {c : Cam} {R : State → State → Prop} (h : CamRelation c R) (s : State)
include h

theorem releaseMark : R s (s.releaseMark c) := by
  have counted := fun n => h.setCam s { s.cam c with phaser := { (s.cam c).phaser with releaseCount := n } }
  unfold State.releaseMark
  dsimp only
  split
  · exact h.trans (counted _) (h.setCam _ _)
  · split
    · exact h.trans (counted _) (h.reportFault _ _)
    · exact counted _

theorem trackMark : R s (s.trackMark c) := by
  unfold State.trackMark
  dsimp only
  split
  · exact h.refl s
  · split
    · exact h.trans (h.setCam s _) (h.reportFault _ _)
    · exact h.setCam s _

theorem cycleMark : R s (s.cycleMark c) := by
  unfold State.cycleMark
  split
  · exact h.releaseMark s
  · exact h.trackMark s
  all_goals exact h.refl s

end CamRelation

namespace CloseRelation

variable {c : Cam} {R : State → State → Prop} (h : CloseRelation c R) (s : State)
include h

theorem miss : R s (s.miss c) := by
  have counted := h.count s
  unfold State.miss
  dsimp only
  split
  · split
    · exact h.trans (h.trans counted (h.setCam _ _)) (h.reportFault _ _)
    · exact h.trans counted (h.setCam _ _)
  · exact counted

theorem closeWindow (j : Nat) : R s (s.closeWindow c j) := by
  unfold State.closeWindow
  dsimp only
  split
  · split
    · exact h.setCam s _
    · exact h.trans (h.setCam s _) (h.miss _)
  · exact h.refl s

theorem closeBy (old new j : Nat) : R s (s.closeBy old new c j) := by
  unfold State.closeBy
  split
  · split
    · exact h.closeWindow s j
    · exact h.refl s
  · exact h.refl s

theorem closePositions (old new : Nat) : R s (positions.foldl (fun v j => v.closeBy old new c j) s) :=
  h.trans (h.trans (h.trans (h.closeBy s old new 0) (h.closeBy _ old new 1)) (h.closeBy _ old new 2))
    (h.closeBy _ old new 3)

end CloseRelation

/-! ### What keeps every record up to its outcomes, and the counters of no cam -/

structure KeepsDemands (s u : State) : Prop where
  table : u.table.map Slot.bare = s.table.map Slot.bare
  counts : ∀ k : Counter, (∀ c i, k ≠ .ofCam c i) → u.counters.get k = s.counters.get k

namespace KeepsDemands

variable {s u v : State}

theorem refl (s : State) : KeepsDemands s s := ⟨rfl, fun _ _ => rfl⟩

theorem trans (h : KeepsDemands s u) (k : KeepsDemands u v) : KeepsDemands s v :=
  ⟨k.table.trans h.table, fun n hn => (k.counts n hn).trans (h.counts n hn)⟩

theorem eachCam (s : State) {f : Cam → State → State} (h : ∀ c u, KeepsDemands u (f c u)) :
    KeepsDemands s (s.eachCam f) := by
  rw [State.eachCam_eq]
  exact (((h .fi _).trans (h .fe _)).trans (h .ri _)).trans (h .re _)

theorem setCam (s : State) (c : Cam) (k : CamState) : KeepsDemands s (s.setCam c k) := ⟨rfl, fun _ _ => rfl⟩

theorem count (s : State) (c : Cam) (i : CamCounter) : KeepsDemands s (s.count (.ofCam c i)) :=
  ⟨rfl, fun _ hn => Counters.get_put_ne s.counters (hn c i) _⟩

theorem mapRecords {t : List Slot} {f : Record → Record} (h : ∀ r, (f r).withdraw = r.withdraw) :
    (Machine.mapRecords f t).map Slot.bare = t.map Slot.bare :=
  mapRecords_slots (g := Record.withdraw) h t

theorem withdraw_write (r : Record) (c : Cam) (o : Outcome) : (r.write c o).withdraw = r.withdraw := by
  unfold Record.write
  split <;> rfl

theorem reportFault (s : State) (c : Cam) (cause : Cause) : KeepsDemands s (s.reportFault c cause) := by
  cases h : s.enabled c with
  | false =>
    rw [State.reportFault_of_disabled h]
    exact .refl s
  | true =>
    have counted := (count s c .faults).counts
    rw [State.reportFault_eq h, State.reported]
    split
    · exact ⟨rfl, counted⟩
    · exact ⟨mapRecords fun r => withdraw_write r c _, counted⟩

theorem closeRelation (c : Cam) : CloseRelation c KeepsDemands :=
  ⟨⟨refl, trans, fun s => setCam s c, fun s => reportFault s c⟩, fun s => count s c .missed⟩

theorem closeAll (s : State) (old new : Nat) : KeepsDemands s (s.closeAll old new) :=
  eachCam s fun c u => (closeRelation c).closePositions u old new

theorem newPitch (s : State) : KeepsDemands s s.newPitch := eachCam s fun c u => setCam u c _

theorem closeTooth (s : State) (k : Tooth) (y : Cycle) (t : Nat) (gap : Bool) :
    KeepsDemands s (s.closeTooth k y t gap) :=
  KeepsDemands.trans (u := s.placeTooth k y t gap) ⟨rfl, fun _ _ => rfl⟩
    ((closeAll _ _ _).trans (newPitch _))

end KeepsDemands

/-! ### The tracker's close of a cycle (R19) -/

theorem State.closeCycle_of_loss {s : State} {k : Tooth} {y : Cycle} (hs : s.tracker.sync = .engineSync k y)
    (hr : y.closedRun = 2) :
    s.closeCycle = (((s.count .phaseLosses).notify .syncLost).setTracker (.crankSync { k with angle := k.angle % 5760 })
      s.tracker.speed).loseSync := by
  unfold State.closeCycle
  rw [hs]
  exact if_pos hr

theorem State.closeCycle_of_kept {s : State} {k : Tooth} {y : Cycle} (hs : s.tracker.sync = .engineSync k y)
    (hr : y.closedRun ≠ 2) :
    s.closeCycle = s.setTracker (.engineSync k { y with mismatchRun := y.closedRun, refHit := false, mismatch := false })
      s.tracker.speed := by
  unfold State.closeCycle
  rw [hs]
  exact if_neg hr

theorem State.closeCycle_of_none {s : State} (hs : ∀ k y, s.tracker.sync ≠ .engineSync k y) : s.closeCycle = s := by
  unfold State.closeCycle
  split
  next k y h => exact absurd h (hs k y)
  next => rfl

theorem State.closeCycle_demands (s : State) :
    s.closeCycle.table.map Slot.bare = s.table.map Slot.bare ∧
      s.closeCycle.counters.lapsedDemands = s.counters.lapsedDemands := by
  by_cases h : ∃ k y, s.tracker.sync = .engineSync k y
  · obtain ⟨k, y, hs⟩ := h
    by_cases hr : y.closedRun = 2
    · rw [State.closeCycle_of_loss hs hr, State.loseSync_table, State.loseSync_counters]
      exact ⟨KeepsDemands.mapRecords fun _ => rfl,
        Counters.get_put_ne s.counters (j := .lapsedDemands) (i := .phaseLosses) nofun _⟩
    · rw [State.closeCycle_of_kept hs hr]
      exact ⟨rfl, rfl⟩
  · rw [State.closeCycle_of_none fun k y hk => h ⟨k, y, hk⟩]
    exact ⟨rfl, rfl⟩

/-- A cycle mark before the tracker closes the cycle (R11). -/
def State.markCams (s : State) : State := s.countCycle.countLifetimes.eachCam fun c u => u.cycleMark c

theorem State.issueMark_eq (s : State) : s.issueMark = s.markCams.closeCycle := rfl

theorem State.markCams_keepsDemands (s : State) : KeepsDemands s.countCycle.countLifetimes s.markCams :=
  KeepsDemands.eachCam _ fun c u => (KeepsDemands.closeRelation c).cycleMark u

theorem State.countLifetimes_table (s : State) : s.countLifetimes.table = s.table.map Slot.countDown := by
  unfold State.countLifetimes
  dsimp only
  split
  · rw [State.countTimes_eq]
  · rw [State.notify_table, State.countTimes_eq]

theorem State.countLifetimes_lapsed (s : State) :
    s.countLifetimes.counters.lapsedDemands =
      Nat.repeat (counterNext s.items.global.counterWrap) (lapsing s.table) s.counters.lapsedDemands := by
  have counted := State.countTimes_get { s with table := s.table.map Slot.countDown } .lapsedDemands (lapsing s.table)
  unfold State.countLifetimes
  dsimp only
  split
  · exact counted
  · exact counted

theorem State.countLifetimes_notice {s : State} (h : lapsing s.table ≠ 0) :
    s.countLifetimes.noticeSet .demandLapsed = true := by
  unfold State.countLifetimes
  dsimp only
  rw [if_neg h]
  exact State.notify_set_self _ _

/-- Slot by slot, what the countdown makes of a table, up to the outcomes (R60). -/
theorem countDown_slot {t v : List Slot} (h : v.map Slot.bare = (t.map Slot.countDown).map Slot.bare) {i : Nat} {x : Slot}
    (hx : t[i]? = some x) : ∃ z, v[i]? = some z ∧ z.bare = x.countDown.bare := by
  have at_i := congrArg (·[i]?) h
  simp only [List.getElem?_map, hx, Option.map_some, Option.map_eq_some_iff] at at_i
  exact at_i

theorem map_countDown_bare {t v : List Slot} (h : v.map Slot.bare = t.map Slot.bare) :
    (v.map Slot.countDown).map Slot.bare = (t.map Slot.countDown).map Slot.bare := by
  apply List.ext_getElem?
  intro i
  have at_i := congrArg (·[i]?) h
  simp only [List.getElem?_map] at at_i ⊢
  cases hv : v[i]? with
  | none =>
    rw [hv, Option.map_none, eq_comm, Option.map_eq_none_iff] at at_i
    rw [at_i]
  | some z =>
    rw [hv, Option.map_some, eq_comm, Option.map_eq_some_iff] at at_i
    obtain ⟨x, hx, same⟩ := at_i
    rw [hx]
    exact congrArg some (Slot.bare_countDown same.symm)

/-- Whether a slot's record lapses is read off its bare form. -/
theorem lapsing_eq (t : List Slot) :
    lapsing t = (t.map Slot.bare).countP (fun b => b.2.any Record.lapses) := by
  rw [lapsing, List.countP_map]
  refine List.countP_congr fun x _ => ?_
  cases hx : x.record with
  | none => simp [Slot.holds, Slot.bare, hx]
  | some r =>
    have lapses : r.withdraw.lapses = r.lapses := rfl
    simp [Slot.holds, Slot.bare, hx, lapses]

/-- What a tooth that is a cycle mark makes of the table, LAPSED_DEMANDS and DEMAND_LAPSED (R60). -/
structure CountsDown (s u : State) : Prop where
  table : u.table.map Slot.bare = (s.table.map Slot.countDown).map Slot.bare
  lapsed : u.counters.lapsedDemands =
    Nat.repeat (counterNext s.items.global.counterWrap) (lapsing s.table) s.counters.lapsedDemands
  notice : lapsing s.table ≠ 0 → u.noticeSet .demandLapsed = true

theorem State.closeTooth_items (s : State) (k : Tooth) (y : Cycle) (t : Nat) (gap : Bool) :
    (s.closeTooth k y t gap).items = s.items :=
  ((State.newPitch_camsMove _).trans (.refl _)).items.trans (State.closeAll_camsMove (s.placeTooth k y t gap) _ _).items

theorem State.engineTooth_countsDown (s : State) {k : Tooth} {y : Cycle} {t : Nat}
    (hmark : y.halfAfter true = .first) : CountsDown s (s.engineTooth k y t true) := by
  have closed := KeepsDemands.closeTooth s k y t true
  have items := s.closeTooth_items k y t true
  rw [State.engineTooth_eq, if_pos ⟨rfl, hmark⟩]
  generalize s.closeTooth k y t true = v at closed items ⊢
  have marked := v.markCams_keepsDemands
  obtain ⟨table, lapsed⟩ := v.markCams.closeCycle_demands
  have lapsing_v : lapsing v.table = lapsing s.table := by rw [lapsing_eq, closed.table, ← lapsing_eq]
  refine ⟨?_, ?_, fun hn => ?_⟩
  · rw [State.issueMark_eq, table, marked.table, State.countLifetimes_table]
    exact map_countDown_bare closed.table
  · refine Eq.trans lapsed ((marked.counts .lapsedDemands nofun).trans ?_)
    refine v.countCycle.countLifetimes_lapsed.trans ?_
    change Nat.repeat (counterNext v.items.global.counterWrap) (lapsing v.table) (v.counters.get .lapsedDemands) = _
    rw [items, lapsing_v, closed.counts .lapsedDemands nofun]
    rfl
  · have noticed : v.countCycle.countLifetimes.noticeSet .demandLapsed = true :=
      State.countLifetimes_notice (s := v.countCycle) (lapsing_v.trans_ne hn)
    exact ((State.eachCam_steady _ fun c u => u.cycleMark_steady c).trans (State.closeCycle_steady _)).notices _ noticed

/-- Settles O33: a cycle mark's countdown, which the rest of its tooth keeps up to the outcomes. -/
theorem cycleMarkCountsLifetimes : Obligations.CycleMarkCountsLifetimes := by
  intro t s k y ht hm hs hhalf accepted hgap hlast
  have due : gapAfter s.items.global k t = gapDue s.items.global k := hgap.trans (decide_eq_true hlast).symm
  have second : y.halfAfter true = .first := by rw [Cycle.halfAfter, if_pos rfl, hhalf]; rfl
  obtain ⟨table, lapsed, notice⟩ := State.engineTooth_countsDown { s with now := t } (k := k) (t := t) second
  rw [exec_crkEdge_of_run ht hm rfl, State.crankEdge_of_engineSync (s := { s with now := t }) accepted hs]
  refine ⟨_, rfl, ?_⟩
  rw [if_pos due, show gapAfter _ k t = true from hgap]
  refine ⟨?_, fun i x hx => ?_, lapsed, fun ⟨x, hx, r, hr, hlife, hone⟩ => notice (Nat.ne_of_gt ?_)⟩
  · have := congrArg List.length table
    simpa only [List.length_map] using this
  · obtain ⟨z, hz, same⟩ := countDown_slot table hx
    refine ⟨fun hnone => ?_, fun r hr => ⟨fun hlife hone => ?_, fun hstay => ?_⟩⟩
    · rw [Slot.countDown_of_free hnone] at same
      rw [hz, Slot.bare_of_none same hnone]
    · rw [Slot.countDown_of_lapse hr hlife hone] at same
      rw [hz, Slot.bare_of_none same rfl]
    · rw [Slot.countDown_of_stay hr hstay] at same
      obtain ⟨o, ho⟩ := Slot.bare_of_some same rfl
      exact ⟨o, by rw [hz, ho]⟩
  · exact List.countP_pos_iff.2 ⟨x, hx, by
      rw [Slot.holds, show x.record = some r from hr]
      exact decide_eq_true ⟨hlife, hone⟩⟩

end Sys2Proof.Machine

/-! ## One cam's part of an event that reaches every cam -/

namespace Sys2Proof.Machine

/-! ### What the other cams' parts leave of a cam's -/

/-- From `s` to `u` other cams have moved: this one stands, with its counters, its PENDING entries and every notice. -/
structure Beside (c : Cam) (s u : State) : Prop where
  move : CamsMove s u
  cam : u.cam c = s.cam c
  pending : s.PendingFor c → u.PendingFor c
  notices : ∀ n : Notice, s.noticeSet n = true → u.noticeSet n = true
  counts : ∀ i : CamCounter, u.counters.get (.ofCam c i) = s.counters.get (.ofCam c i)
  losses : u.counters.phaseLosses = s.counters.phaseLosses

theorem State.PendingFor.mapRecords {s u : State} {c : Cam} (h : s.PendingFor c) {f : Record → Record}
    (ht : u.table = Machine.mapRecords f s.table)
    (hf : ∀ r, (f r).cams = r.cams ∧ ((f r).outcomes.get c = r.outcomes.get c ∨ (f r).outcomes.get c = .fresh)) :
    u.PendingFor c := by
  intro x hx r hr named
  rw [ht] at hx
  obtain ⟨z, hz, rfl⟩ := List.mem_map.1 hx
  obtain ⟨q, hq, rfl⟩ := Option.map_eq_some_iff.1 hr
  obtain ⟨cams, same | fresh⟩ := hf q
  · rw [same]
    exact h z hz q hq (cams ▸ named)
  · exact fresh

namespace Beside

variable {c b : Cam} {s u v : State}

theorem refl (c : Cam) (s : State) : Beside c s s := ⟨.refl s, rfl, id, fun _ h => h, fun _ => rfl, rfl⟩

theorem trans (h : Beside c s u) (k : Beside c u v) : Beside c s v :=
  ⟨h.move.trans k.move, k.cam.trans h.cam, fun p => k.pending (h.pending p), fun n hn => k.notices n (h.notices n hn),
    fun i => (k.counts i).trans (h.counts i), k.losses.trans h.losses⟩

theorem items (h : Beside c s u) : u.items = s.items := h.move.items
theorem parkLine (h : Beside c s u) : u.parkLine = s.parkLine := h.move.parkLine

theorem setCam (hb : b ≠ c) (s : State) (k : CamState) : Beside c s (s.setCam b k) where
  move := (s.setCam_localTo b k).camsMove
  cam := (s.setCam_localTo b k).cam_ne hb.symm
  pending := id
  notices _ h := h
  counts _ := rfl
  losses := rfl

theorem count (hb : b ≠ c) (s : State) (i : CamCounter) : Beside c s (s.count (.ofCam b i)) where
  move := (s.count_localTo b _).camsMove
  cam := rfl
  pending := id
  notices _ h := h
  counts j := Counters.get_put_ne s.counters (j := .ofCam c j) (i := .ofCam b i)
    (fun h => hb (Counter.ofCam.inj h).1.symm) _
  losses := Counters.get_put_ne s.counters (j := .phaseLosses) (i := .ofCam b i) nofun _

theorem write_other (hb : b ≠ c) (r : Record) (o : Outcome) :
    (r.write b o).cams = r.cams ∧ ((r.write b o).outcomes.get c = r.outcomes.get c ∨
      (r.write b o).outcomes.get c = .fresh) := by
  unfold Record.write
  split
  · exact ⟨rfl, .inl (PerCam.get_set_ne _ hb.symm _)⟩
  · exact ⟨rfl, .inl rfl⟩

theorem reportFault (hb : b ≠ c) (s : State) (cause : Cause) : Beside c s (s.reportFault b cause) := by
  have counted := (Beside.count hb s .faults)
  have latched := (s.reportFault_steady b cause).notices
  have localTo := s.reportFault_localTo b cause
  cases h : s.enabled b with
  | false =>
    rw [State.reportFault_of_disabled h]
    exact .refl c s
  | true =>
    rw [State.reportFault_eq h, State.reported] at latched localTo ⊢
    split
    next hf =>
      rw [if_pos hf] at latched localTo
      exact ⟨localTo.camsMove, localTo.cam_ne hb.symm, id, latched, counted.counts, counted.losses⟩
    next hf =>
      rw [if_neg hf] at latched localTo
      exact ⟨localTo.camsMove, localTo.cam_ne hb.symm,
        fun p => p.mapRecords (s.faulted_table b cause) fun r => write_other hb r _, latched, counted.counts,
        counted.losses⟩

theorem closeRelation (hb : b ≠ c) : CloseRelation b (Beside c) :=
  ⟨⟨refl c, trans, setCam hb, reportFault hb⟩, fun s => count hb s .missed⟩

theorem driverFault (hb : b ≠ c) (s : State) (fault : Latch) (cause : Cause) :
    Beside c s (s.driverFault b fault cause) :=
  (setCam hb s _).trans (reportFault hb _ cause)

theorem endPeriod (hb : b ≠ c) (s : State) (sensed choice : Nat) : Beside c s (s.endPeriod b sensed choice) := by
  unfold State.endPeriod
  dsimp only
  split
  · exact ((setCam hb s _).trans (driverFault hb _ _ _)).trans (setCam hb _ _)
  · exact (setCam hb s _).trans (setCam hb _ _)

end Beside

/-- An event that reaches every cam comes to a cam after the cams before it, and before those behind it. -/
theorem State.eachCam_between {R : State → State → Prop} (hrefl : ∀ u, R u u) (htrans : ∀ {u v w}, R u v → R v w → R u w)
    (s : State) (c : Cam) {f : Cam → State → State} (h : ∀ b, b ≠ c → ∀ u, R u (f b u)) :
    ∃ w, R s w ∧ R (f c w) (s.eachCam f) := by
  rw [State.eachCam_eq]
  cases c with
  | fi => exact ⟨s, hrefl s, htrans (htrans (h .fe nofun _) (h .ri nofun _)) (h .re nofun _)⟩
  | fe => exact ⟨_, h .fi nofun s, htrans (h .ri nofun _) (h .re nofun _)⟩
  | ri => exact ⟨_, htrans (h .fi nofun s) (h .fe nofun _), h .re nofun _⟩
  | re => exact ⟨_, htrans (htrans (h .fi nofun s) (h .fe nofun _)) (h .ri nofun _), hrefl _⟩

theorem State.eachCam_split (s : State) (c : Cam) {f : Cam → State → State}
    (h : ∀ b, b ≠ c → ∀ u, Beside c u (f b u)) : ∃ w, Beside c s w ∧ Beside c (f c w) (s.eachCam f) :=
  s.eachCam_between (Beside.refl c) Beside.trans c h

/-! ### A cam that a fault report has put in FAULT (R109) -/

theorem State.faulted_pendingFor (s : State) (c : Cam) (cause : Cause) : (s.faulted c cause).PendingFor c := by
  intro x hx r hr named
  rw [State.faulted_table] at hx
  obtain ⟨z, -, rfl⟩ := List.mem_map.1 hx
  obtain ⟨q, -, rfl⟩ := Option.map_eq_some_iff.1 hr
  unfold Record.write at named ⊢
  split
  · exact PerCam.get_set_self _ _ _
  next hn =>
    rw [if_neg hn] at named
    exact absurd named hn

theorem State.faulted_notice (s : State) (c : Cam) (cause : Cause) :
    (s.faulted c cause).noticeSet (.phaserFault c) = true :=
  State.notify_set_self { s with notices := s.abortNotices c } (.phaserFault c)

theorem State.faulted_faults (s : State) (c : Cam) (cause : Cause) :
    (s.faulted c cause).counters.get (.ofCam c .faults) =
      counterNext s.items.global.counterWrap (s.counters.get (.ofCam c .faults)) :=
  Counters.get_put_self s.counters (.ofCam c .faults) _

theorem State.faulted_learnEnded {s : State} {c : Cam} (h : (s.cam c).phaser.learning = true) (cause : Cause) :
    (s.faulted c cause).noticeSet (.learnEnded c) = true := by
  have ended : s.abortNotices c = (s.notify (.learnEnded c)).notices := if_pos h
  refine State.notify_keeps { s with notices := s.abortNotices c } (.learnEnded c) (.phaserFault c) ?_
  rw [State.noticeSet, ended]
  exact s.notify_set_self (.learnEnded c)

end Sys2Proof.Machine

/-! ## The end of a PWM period (R137 to R143) -/

namespace Sys2Proof.Machine

/-! ### A channel's duty -/

section Duty

variable (h : Channel) (mean choice : Nat)

theorem Channel.nextDuty_of_starting (hs : h.starting = true) (hm : mean ≤ h.command) : h.nextDuty mean choice = 1000 :=
  if_pos ⟨hs, hm⟩

theorem Channel.nextDuty_of_below (hm : mean < h.command) :
    h.duty < h.nextDuty mean choice ∨ h.nextDuty mean choice = 1000 := by
  by_cases hs : h.starting = true
  · exact .inr (h.nextDuty_of_starting mean choice hs hm.le)
  · have raised : h.nextDuty mean choice =
        if h.duty < 1000 then h.duty + 1 + choice % (1000 - h.duty) else 1000 :=
      (if_neg fun hn => hs hn.1).trans (if_pos hm)
    rw [raised]
    split
    · left
      omega
    · exact .inr rfl

theorem Channel.nextDuty_of_above (hm : h.command < mean) :
    h.nextDuty mean choice < h.duty ∨ h.nextDuty mean choice = 0 := by
  unfold Channel.nextDuty
  rw [if_neg (fun hs => Nat.not_le.2 hm hs.2), if_neg (Nat.lt_asymm hm), if_pos hm]
  split
  · exact .inr rfl
  next h0 => exact .inl (Nat.mod_lt _ (Nat.pos_of_ne_zero h0))

end Duty

/-! ### A channel's part of a period end -/

/-- The open-load run after a period end (R142). -/
def Channel.runAfter (h : Channel) (mean : Nat) : Nat :=
  if h.wholePeriod = true then h.judgeOpenLoad mean else h.openLoadRun

/-- The channel after the judgement of a period that brings no fault, before the next begins. -/
def Channel.judged (h : Channel) (mean : Nat) : Channel :=
  { h with
    mean := .measured mean
    limited := if h.wholePeriod = true then h.judgeLimited mean else h.limited
    openLoadRun := h.runAfter mean }

theorem Channel.judge_eq_judged (h : Channel) (sensed : Nat) : h.judge sensed = h.judged (min sensed 3000) :=
  h.judge_eq sensed

/-- The channel that an open load has latched and its cam's entry to FAULT has stood down (R109, R143). -/
def Channel.opened (mean : Nat) : Channel :=
  { command := 0, output := .off, duty := 0, switchClosed := false, mean := .measured mean
    limited := false, latch := .openLoad, openLoadRun := 0, wholePeriod := false, starting := false }

theorem Channel.latchFault_write_zero {h : Channel} (hd : h.output = .driven) (hc : 0 < h.command) (line : ParkLine) :
    (h.latchFault line .openLoad).write line 0 =
      { h with
        command := 0, output := .off, duty := 0, switchClosed := false, limited := false, latch := .openLoad
        openLoadRun := 0, wholePeriod := false, starting := false } := by
  rw [Channel.latchFault_of_driven hd line (fault := .openLoad) nofun]
  refine (if_neg (Nat.ne_of_lt hc)).trans ?_
  rw [Channel.follow_eq, if_neg (fun hm => absurd ((Channel.mayDrive_iff _ _).1 hm).1 (Nat.lt_irrefl 0)), if_neg nofun]
  rfl

theorem openLoadPeriods_eq {hz n : Nat} (h1 : 20 * hz ≤ 1000 * n) (h2 : 1000 * n < 20 * hz + 1000) :
    openLoadPeriods hz = n := by
  unfold openLoadPeriods
  omega

/-- A period end brings the run to its qualifying number just where the run then has that number (R142). -/
theorem Channel.qualifies_iff {h : Channel} {hz : Nat} (hrun : h.openLoadRun < openLoadPeriods hz) (mean : Nat) :
    (h.judged mean).qualifiesOpenLoad hz = true ↔ h.runAfter mean = openLoadPeriods hz := by
  unfold Channel.qualifiesOpenLoad
  rw [Bool.and_eq_true_iff, decide_eq_true_iff]
  change h.wholePeriod = true ∧ openLoadPeriods hz ≤ h.runAfter mean ↔ _
  unfold Channel.runAfter Channel.judgeOpenLoad
  split
  next hw =>
    simp only [hw, true_and]
    split
    all_goals omega
  next hw =>
    simp only [hw, Bool.false_eq_true, false_and, false_iff]
    omega

section Part

variable {s : State} {c : Cam} {sensed choice m : Nat} (hm : m = min sensed 3000)
include hm

/-- A channel's part of a period end that brings no fault (R137, R138). -/
theorem State.endPeriod_cam_of_quiet
    (hq : ¬ ((s.cam c).channel.judged m).qualifiesOpenLoad s.items.global.pwmHz = true) :
    (s.endPeriod c sensed choice).cam c =
      { s.cam c with channel := ((s.cam c).channel.judged m).beginPeriod m choice } := by
  subst hm
  unfold State.endPeriod
  dsimp only
  rw [Channel.judge_eq_judged, if_neg hq]
  simp only [State.setChannel, State.setCam_cam_self]

/-- A channel's part of a period end at which its open load qualifies (R143): its cam enters FAULT. -/
theorem State.endPeriod_of_fault
    (hstate : (s.cam c).phaser.state ∈ [PhaserState.parked, .releasing, .tracking, .forced])
    (hq : ((s.cam c).channel.judged m).qualifiesOpenLoad s.items.global.pwmHz = true) :
    s.endPeriod c sensed choice =
      let v := (s.setChannel c (((s.cam c).channel.judged m).latchFault s.parkLine .openLoad)).faulted c .openLoad
      v.setChannel c ((v.cam c).channel.beginPeriod m choice) := by
  subst hm
  unfold State.endPeriod
  dsimp only
  rw [Channel.judge_eq_judged, if_pos hq, State.setChannel_driverFault, State.reportFault_of_moving]
  rw [State.setChannel, State.setCam_cam_self]
  exact hstate

theorem State.endPeriod_cam_of_fault (hd : (s.cam c).channel.output = .driven) (hc : 0 < (s.cam c).channel.command)
    (hstate : (s.cam c).phaser.state ∈ [PhaserState.parked, .releasing, .tracking, .forced])
    (hq : ((s.cam c).channel.judged m).qualifiesOpenLoad s.items.global.pwmHz = true) :
    (s.endPeriod c sensed choice).cam c =
      ((s.setChannel c (Channel.opened m)).faulted c .openLoad).cam c ∧
    ((s.endPeriod c sensed choice).cam c).channel = Channel.opened m := by
  have stood : (((s.cam c).channel.judged m).latchFault s.parkLine .openLoad).write s.parkLine 0 = Channel.opened m :=
    Channel.latchFault_write_zero (h := (s.cam c).channel.judged m) hd hc s.parkLine
  rw [State.endPeriod_of_fault hm hstate hq]
  simp only [State.setChannel, State.setCam_cam_self, State.faulted_cam, State.setCam_parkLine]
  rw [stood]
  exact ⟨rfl, rfl⟩

theorem State.endPeriod_reports
    (hstate : (s.cam c).phaser.state ∈ [PhaserState.parked, .releasing, .tracking, .forced])
    (hq : ((s.cam c).channel.judged m).qualifiesOpenLoad s.items.global.pwmHz = true) :
    (s.endPeriod c sensed choice).PendingFor c ∧ (s.endPeriod c sensed choice).noticeSet (.phaserFault c) = true ∧
      (s.endPeriod c sensed choice).counters.get (.ofCam c .faults) =
        counterNext s.items.global.counterWrap (s.counters.get (.ofCam c .faults)) := by
  rw [State.endPeriod_of_fault hm hstate hq]
  exact ⟨State.faulted_pendingFor _ c .openLoad, State.faulted_notice _ c .openLoad, State.faulted_faults _ c .openLoad⟩

end Part

theorem State.faulted_cam_congr {s u : State} {c : Cam} (hc : s.cam c = u.cam c) (hl : s.parkLine = u.parkLine)
    (cause : Cause) : (s.faulted c cause).cam c = (u.faulted c cause).cam c := by
  rw [State.faulted_cam, State.faulted_cam, hc, hl]

theorem Channel.beginPeriod_of_off {h : Channel} (ho : h.output = .off) (hw : h.wholePeriod = false) (mean choice : Nat) :
    (h.judged mean).beginPeriod mean choice = { h with mean := .measured mean } := by
  have output : (h.judged mean).output = .off := ho
  unfold Channel.beginPeriod
  rw [output]
  obtain ⟨⟩ := h
  dsimp only at hw ho ⊢
  subst hw ho
  rfl

theorem Channel.beginPeriod_of_driven {h : Channel} (ho : h.output = .driven) (mean choice : Nat) :
    (h.judged mean).beginPeriod mean choice = { h.judged mean with
      output := .driven, duty := (h.judged mean).nextDuty mean choice
      switchClosed := decide (0 < (h.judged mean).nextDuty mean choice), wholePeriod := true
      starting := h.starting && decide (mean ≤ h.command) } := by
  have output : (h.judged mean).output = .driven := ho
  unfold Channel.beginPeriod
  rw [output]
  rfl

/-- How the period of a channel still DRIVEN begins (R138, R139, R142). -/
theorem Channel.regulates {h g : Channel} {mean choice : Nat} (ho : h.output = .driven) (hl : h.latch = .none)
    (hd : h.duty ≤ 1000) (hg : g = (h.judged mean).beginPeriod mean choice) :
    g.output = .driven ∧ g.command = h.command ∧ g.latch = .none ∧ g.openLoadRun = h.runAfter mean ∧
      (g.limited = true ↔
        if h.wholePeriod = true then h.duty = 1000 ∧ 100 * mean < 95 * h.command else h.limited = true) ∧
      (g.starting = true ↔ h.starting = true ∧ mean ≤ h.command) ∧
      (g.starting = true → g.duty = 1000) ∧ g.duty ≤ 1000 ∧
      (mean < h.command → h.duty < g.duty ∨ g.duty = 1000) ∧
      (h.command < mean → g.duty < h.duty ∨ g.duty = 0) ∧
      (g.switchClosed = true ↔ 0 < g.duty) ∧ g.wholePeriod = true := by
  rw [Channel.beginPeriod_of_driven ho] at hg
  subst hg
  have starting : (h.starting && decide (mean ≤ h.command)) = true ↔ h.starting = true ∧ mean ≤ h.command := by
    rw [Bool.and_eq_true_iff, decide_eq_true_iff]
  refine ⟨rfl, rfl, hl, rfl, ?_, starting, fun hs => ?_, Channel.nextDuty_le (h := h.judged mean) hd _ _,
    (h.judged mean).nextDuty_of_below mean choice, (h.judged mean).nextDuty_of_above mean choice, decide_eq_true_iff, rfl⟩
  · change (if h.wholePeriod = true then h.judgeLimited mean else h.limited) = true ↔ _
    split
    · exact decide_eq_true_iff
    · exact Iff.rfl
  · obtain ⟨hstart, hmean⟩ := starting.1 hs
    exact (h.judged mean).nextDuty_of_starting mean choice hstart hmean

theorem Sound.moving_of_driven {s : State} (hs : Sound s) {c : Cam} (h : (s.cam c).channel.output = .driven) :
    0 < (s.cam c).channel.command ∧ (s.cam c).channel.latch = .none ∧
      (s.cam c).phaser.state ∈ [PhaserState.parked, .releasing, .tracking, .forced] := by
  obtain ⟨follows, -, -⟩ := (channelSound_iff s c).1 (hs.cams c).channel
  obtain ⟨positive, -, latch⟩ := (Channel.mayDrive_iff _ _).1 (follows.1 h)
  refine ⟨positive, latch, ?_⟩
  by_contra still
  have := (hs.cams c).command.2.2 (fun hp => still (by rw [hp]; decide)) (fun hp => still (by rw [hp]; decide))
  omega

theorem State.periodEnd_of_over {s : State} {t : Nat} {means : PerCam Nat} {b : Timebase} (ht : s.now ≤ t)
    (hb : s.timebase = some b) :
    exec (.pwmPeriodEnd means t) s = .next (if b.periodOver s.items.global.pwmHz t = true then
      State.periodEnd { s with now := t } b means else { s with now := t }) := by
  rw [exec_pwmPeriodEnd_eq ht means, hb]

/-- Settles O49: each channel's part of the period end, to which the other cams' parts add nothing. -/
theorem periodEndRegulates : Obligations.PeriodEndRegulates := by
  intro means t n s b hs ht hb hn1 hn2
  have hn : openLoadPeriods s.items.global.pwmHz = n := openLoadPeriods_eq hn1 hn2
  rw [State.periodEnd_of_over ht hb]
  refine ⟨fun early => ?_, fun late => ⟨_, congrArg _ (if_pos (decide_eq_true late)), rfl, ?_⟩⟩
  · exact congrArg Host.Outcome.next (if_neg fun h => Nat.not_le.2 early (of_decide_eq_true h))
  · rintro c m run h g hm rfl hg hrun
    obtain ⟨w, before, after⟩ := State.eachCam_split { s with now := t } c
      (f := fun c v => v.endPeriod c (means.get c) (Config.dutyChoice s.fresh c)) fun b hb u => .endPeriod hb u _ _
    have cam : w.cam c = s.cam c := before.cam
    have items : w.items = s.items := before.items
    have ended : (State.periodEnd { s with now := t } b means).cam c =
        (w.endPeriod c (means.get c) (Config.dutyChoice s.fresh c)).cam c := after.cam
    obtain ⟨-, ⟨quiet, duty, below⟩, -⟩ := (channelSound_iff s c).1 (hs.cams c).channel
    replace hrun : run = (s.cam c).channel.runAfter m := hrun
    have qualifies : ((w.cam c).channel.judged m).qualifiesOpenLoad w.items.global.pwmHz = true ↔ run = n := by
      rw [cam, items, Channel.qualifies_iff below, hn, hrun]
    have unfaulted : run ≠ n → (State.periodEnd { s with now := t } b means).cam c = { s.cam c with channel := g } ∧
        g = ((s.cam c).channel.judged m).beginPeriod m (Config.dutyChoice s.fresh c) := by
      intro hne
      have quietly := State.endPeriod_cam_of_quiet (choice := Config.dutyChoice s.fresh c) hm (mt qualifies.1 hne)
      rw [cam, ← ended] at quietly
      rw [quietly] at hg
      exact ⟨by rw [quietly, hg], hg⟩
    cases ho : (s.cam c).channel.output with
    | off =>
      have idle := (quiet ho).2.2.2.2.1
      have hne : run ≠ n := by
        rw [hrun, Channel.runAfter, if_neg (by rw [idle]; nofun)]
        omega
      obtain ⟨hcam, hchannel⟩ := unfaulted hne
      rw [Channel.beginPeriod_of_off ho idle] at hchannel
      exact ⟨by rw [hchannel], fun _ => ⟨by rw [hchannel, ho], hcam⟩, nofun, nofun⟩
    | driven =>
      obtain ⟨positive, latch, moving⟩ := hs.moving_of_driven ho
      by_cases hq : run = n
      · obtain ⟨hcam, hchannel⟩ := State.endPeriod_cam_of_fault (choice := Config.dutyChoice s.fresh c) hm
          (by rw [cam]; exact ho) (by rw [cam]; exact positive) (by rw [cam]; exact moving) (qualifies.2 hq)
        obtain ⟨pending, notice, faults⟩ := State.endPeriod_reports (choice := Config.dutyChoice s.fresh c) hm
          (by rw [cam]; exact moving) (qualifies.2 hq)
        rw [← ended] at hcam hchannel
        rw [← hg] at hchannel
        refine ⟨by rw [hchannel]; rfl, nofun, fun _ _ => ⟨?_, ?_, ?_, ?_, hchannel⟩, fun _ hne => absurd hq hne⟩
        · rw [hcam]
          refine State.faulted_cam_congr ?_ ?_ _
          · rw [State.setChannel, State.setCam_cam_self, State.cam_of_set, cam, hchannel]
          · exact before.parkLine
        · exact after.pending pending
        · exact after.notices _ notice
        · exact (after.counts _).trans (faults.trans (by rw [items, before.counts]))
      · obtain ⟨hcam, hchannel⟩ := unfaulted hq
        refine ⟨?_, nofun, fun _ h => absurd h hq, fun _ _ => ⟨hcam, ?_⟩⟩
        · rw [hchannel, Channel.beginPeriod_of_driven ho]
          rfl
        · rw [hrun]
          exact Channel.regulates ho latch duty hchannel

end Sys2Proof.Machine

/-! ## The park line (R106, R107, R132, R145, R146; log 29) -/

namespace Sys2Proof.Machine

/-! ### A sequencer that takes an assertion it was told of -/

/-- A cam in service stood down to the state it rests in under a line (R106, R107). -/
def CamState.stood (k : CamState) (line : ParkLine) : CamState :=
  { k with
    phaser := { k.phaser.aborted with
      state := line.restState, releaseCount := 0, parkRun := 0, errorRun := 0, eventSeen := false, allOver := true }
    loop := ⟨0, 0⟩
    channel := k.channel.write line 0 }

theorem State.forceOnAssert_eq (s : State) (c : Cam) :
    s.forceOnAssert c =
      if (s.cam c).phaser.state.inService = true then
        { s with
          notices := s.abortNotices c
          cams := s.cams.set c { s.cam c with
            phaser := { (s.cam c).phaser.aborted with
              state := .forced, releaseCount := 0, parkRun := 0, errorRun := 0, eventSeen := false, allOver := true }
            loop := ⟨0, 0⟩
            channel := (s.cam c).channel.write s.parkLine 0 } }
      else s := by
  unfold State.forceOnAssert
  rw [State.abortLearn_standDown]

/-- What an assertion taken by the sequencers can move: those told, the notices and the cams. -/
def Takes (s u : State) : Prop := u = { s with told := u.told, notices := u.notices, cams := u.cams }

theorem Takes.refl (s : State) : Takes s s := rfl

theorem Takes.trans {s u v : State} (h : Takes s u) (k : Takes u v) : Takes s v := by
  unfold Takes at *
  rw [k, h]

theorem State.forceOnAssert_takes (s : State) (c : Cam) : Takes s (s.forceOnAssert c) := by
  rw [State.forceOnAssert_eq]
  split
  · exact rfl
  · exact .refl s

theorem State.parkOnRelease_takes (s : State) (c : Cam) : Takes s (s.parkOnRelease c) := by
  rw [State.parkOnRelease_eq]
  split
  · exact rfl
  · exact .refl s

theorem State.takeAssertion_takes (c : Cam) (s : State) : Takes s (s.takeAssertion c) := by
  have untold : Takes s { s with told := s.told.set c false } := rfl
  have forced := untold.trans (State.forceOnAssert_takes _ c)
  unfold State.takeAssertion
  split
  · dsimp only
    split
    · exact forced
    · exact forced.trans (State.parkOnRelease_takes _ c)
  · exact .refl s

/-! ### An occasion for every sequencer -/

/-- One sequencer's part of an occasion (R132). -/
def State.mayTake (c : Cam) (s : State) : State := if s.lagging.get c = true then s else s.takeAssertion c

theorem State.takeUp_eq (s : State) : s.takeUp = s.eachCam State.mayTake := rfl

theorem State.mayTake_takes (c : Cam) (s : State) : Takes s (s.mayTake c) := by
  unfold State.mayTake
  split
  · exact .refl s
  · exact s.takeAssertion_takes c

theorem State.takeUp_takes (s : State) : Takes s s.takeUp := by
  rw [State.takeUp_eq]
  exact State.eachCam_keeps (P := Takes s) (fun c u h => h.trans (u.mayTake_takes c)) (.refl s)

/-- What the other sequencers' parts of an occasion leave of a cam's. -/
structure PassesBy (c : Cam) (s u : State) : Prop where
  takes : Takes s u
  cam : u.cam c = s.cam c
  told : u.told.get c = s.told.get c
  notices : ∀ n : Notice, s.noticeSet n = true → u.noticeSet n = true

theorem PassesBy.refl (c : Cam) (s : State) : PassesBy c s s := ⟨.refl s, rfl, rfl, fun _ h => h⟩

theorem PassesBy.trans {c : Cam} {s u v : State} (h : PassesBy c s u) (k : PassesBy c u v) : PassesBy c s v :=
  ⟨h.takes.trans k.takes, k.cam.trans h.cam, k.told.trans h.told, fun n hn => k.notices n (h.notices n hn)⟩

theorem State.mayTake_passesBy {b c : Cam} (hb : b ≠ c) (s : State) : PassesBy c s (s.mayTake b) := by
  have localTo := s.takeAssertion_localTo b
  have notices := (State.takeAssertion_steady b s).notices
  have takes := s.takeAssertion_takes b
  unfold State.mayTake
  split
  · exact .refl c s
  · refine ⟨takes, localTo.cam_ne hb.symm, ?_, notices⟩
    rw [localTo.camsMove.told]
    exact PerCam.get_set_ne _ hb.symm _

theorem State.takeUp_passesBy (s : State) (c : Cam) :
    ∃ w, PassesBy c s w ∧ PassesBy c (w.mayTake c) s.takeUp :=
  s.eachCam_between (PassesBy.refl c) PassesBy.trans c fun _ hb u => u.mayTake_passesBy hb

/-- A cam after an occasion (R106, R107, R132): it is stood down if its sequencer was told, does not lag and is in
service. -/
theorem State.takeUp_cam {s : State} {c : Cam} (hforced : (s.cam c).phaser.state = .forced → s.parkLine = .asserted) :
    (s.takeUp.cam c =
      if s.told.get c = true ∧ s.lagging.get c = false ∧ (s.cam c).phaser.state.inService = true then
        (s.cam c).stood s.parkLine
      else s.cam c) ∧
    (s.told.get c = true → s.lagging.get c = false → (s.cam c).phaser.state.inService = true →
      (s.cam c).phaser.learning = true → s.takeUp.noticeSet (.learnEnded c) = true) := by
  obtain ⟨w, ⟨before, cam, told, -⟩, after⟩ := s.takeUp_passesBy c
  have line : w.parkLine = s.parkLine := by rw [before]
  have lagging : w.lagging = s.lagging := by rw [before]
  rw [after.cam]
  unfold State.mayTake at after ⊢
  rw [lagging] at after ⊢
  by_cases hl : s.lagging.get c = true
  · rw [if_pos hl, if_neg (fun h => by rw [hl] at h; cases h.2.1)]
    exact ⟨cam, fun _ h => by rw [hl] at h; cases h⟩
  · rw [if_neg hl] at after ⊢
    have hl := Bool.eq_false_iff.2 hl
    by_cases ht : s.told.get c = true
    · have taken := State.takeAssertion_of_told (s := w) (told.trans ht) (by rw [cam, line]; exact hforced)
      rw [cam, line] at taken
      rw [taken] at after ⊢
      by_cases hp : (s.cam c).phaser.state.inService = true
      · rw [if_pos hp] at after ⊢
        rw [if_pos ⟨ht, hl, hp⟩]
        refine ⟨PerCam.get_set_self _ _ _, fun _ _ _ learning => after.notices _ ?_⟩
        have ended : w.abortNotices c = (w.notify (.learnEnded c)).notices := if_pos (by rw [cam]; exact learning)
        rw [State.noticeSet]
        dsimp only
        rw [ended]
        exact w.notify_set_self (.learnEnded c)
      · rw [if_neg hp, if_neg fun h => hp h.2.2]
        exact ⟨cam, fun _ _ h => absurd h hp⟩
    · rw [State.takeAssertion, if_neg (by rw [told]; exact ht), if_neg fun h => ht h.1]
      exact ⟨cam, fun h => absurd h ht⟩

end Sys2Proof.Machine

/-! ## The park line's commands (R145, R146; log 29) -/

namespace Sys2Proof.Machine

/-! ### An occasion does not read the instant -/

theorem State.forceOnAssert_later (s : State) (c : Cam) (t : Nat) :
    ({ s with now := t }).forceOnAssert c = { s.forceOnAssert c with now := t } := by
  by_cases h : (s.cam c).phaser.state.inService = true
  · rw [State.forceOnAssert_eq, State.forceOnAssert_eq s, if_pos h]
    exact if_pos h
  · rw [State.forceOnAssert_eq, State.forceOnAssert_eq s, if_neg h]
    exact if_neg h

theorem State.parkOnRelease_later (s : State) (c : Cam) (t : Nat) :
    ({ s with now := t }).parkOnRelease c = { s.parkOnRelease c with now := t } := by
  by_cases h : (s.cam c).phaser.state = .forced
  · rw [State.parkOnRelease_eq, State.parkOnRelease_eq s, if_pos h]
    exact if_pos h
  · rw [State.parkOnRelease_eq, State.parkOnRelease_eq s, if_neg h]
    exact if_neg h

theorem State.takeAssertion_later (s : State) (c : Cam) (t : Nat) :
    ({ s with now := t }).takeAssertion c = { s.takeAssertion c with now := t } := by
  have forced := State.forceOnAssert_later { s with told := s.told.set c false } c t
  unfold State.takeAssertion
  by_cases ht : s.told.get c = true
  · refine Eq.trans (if_pos ht) (Eq.trans ?_ (congrArg (fun u : State => { u with now := t }) (if_pos ht).symm))
    dsimp only at forced ⊢
    rw [forced]
    generalize State.forceOnAssert _ c = q
    cases hl : q.parkLine with
    | asserted =>
      obtain ⟨⟩ := q
      cases hl
      rfl
    | released =>
      have parked := q.parkOnRelease_later c t
      obtain ⟨⟩ := q
      cases hl
      exact parked
  · exact Eq.trans (if_neg ht) (congrArg (fun u : State => { u with now := t }) (if_neg ht).symm)

theorem State.mayTake_later (c : Cam) (s : State) (t : Nat) :
    State.mayTake c { s with now := t } = { s.mayTake c with now := t } := by
  unfold State.mayTake
  by_cases hl : s.lagging.get c = true
  · exact Eq.trans (if_pos hl) (congrArg (fun u : State => { u with now := t }) (if_pos hl).symm)
  · exact Eq.trans (if_neg hl) (Eq.trans (s.takeAssertion_later c t)
      (congrArg (fun u : State => { u with now := t }) (if_neg hl).symm))

theorem State.eachCam_comm {f : Cam → State → State} {g : State → State} (s : State) (h : ∀ c u, f c (g u) = g (f c u)) :
    (g s).eachCam f = g (s.eachCam f) := by
  rw [State.eachCam_eq, State.eachCam_eq, h, h, h, h]

theorem State.hearAssertion_later (s : State) (t : Nat) :
    ({ s with now := t }).hearAssertion = { s.hearAssertion with now := t } := by
  unfold State.hearAssertion
  by_cases ht : s.told = .const false
  · exact Eq.trans (if_pos ht) (congrArg (fun u : State => { u with now := t }) (if_pos ht).symm)
  · refine Eq.trans (if_neg ht) (Eq.trans ?_ (congrArg (fun u : State => { u with now := t }) (if_neg ht).symm))
    exact State.eachCam_comm (g := fun u => { u with now := t }) s.drawLagging fun c u => State.mayTake_later c u t

/-! ### What an occasion brings -/

theorem State.drawLagging_takeUp_eq (s : State) :
    s.drawLagging.takeUp = { s with
      told := s.drawLagging.takeUp.told, lagging := s.drawLagging.lagging, fresh := s.fresh + 1
      cams := s.drawLagging.takeUp.cams, notices := s.drawLagging.takeUp.notices } := by
  have takes := s.drawLagging.takeUp_takes
  unfold Takes at takes
  generalize s.drawLagging.takeUp = u at takes ⊢
  rw [takes]
  rfl

theorem told_const_false_iff (p : PerCam Bool) : p = .const false ↔ ∀ c, p.get c = false := by
  constructor
  · rintro rfl c
    exact PerCam.get_const _ _
  · exact fun h => PerCam.ext_get fun c => (h c).trans (PerCam.get_const _ _).symm

theorem State.hearAssertion_of_told {s : State} {c : Cam} (h : s.told.get c = true) :
    s.hearAssertion = s.drawLagging.takeUp :=
  if_neg fun hn => absurd (((told_const_false_iff _).1 hn c).symm.trans h) nofun

theorem State.hearAssertion_eq (s : State) :
    s.hearAssertion = { s with
      told := s.hearAssertion.told, lagging := s.hearAssertion.lagging, fresh := s.hearAssertion.fresh
      cams := s.hearAssertion.cams, notices := s.hearAssertion.notices } := by
  by_cases h : s.told = .const false
  · rw [State.hearAssertion_of_none h]
  · have heard : s.hearAssertion = s.drawLagging.takeUp := if_neg h
    have frame := s.drawLagging_takeUp_eq
    rw [heard]
    generalize s.drawLagging.takeUp = u at frame ⊢
    rw [frame]

theorem PhaserState.inService_iff (st : PhaserState) :
    st.inService = true ↔ st ∈ [PhaserState.parked, .releasing, .tracking] := by
  cases st <;> decide

/-- A cam after an occasion, by whether its sequencer was told (R132). -/
theorem State.hearAssertion_cam {s : State} {c : Cam}
    (hforced : (s.cam c).phaser.state = .forced → s.parkLine = .asserted) :
    (s.told.get c = false → s.hearAssertion.told.get c = false ∧ s.hearAssertion.cam c = s.cam c) ∧
    (s.told.get c = true →
      s.hearAssertion.told.get c = s.hearAssertion.lagging.get c ∧
      (s.hearAssertion.told.get c = true ∨ (s.cam c).phaser.state ∉ [PhaserState.parked, .releasing, .tracking] →
        s.hearAssertion.cam c = s.cam c) ∧
      (s.hearAssertion.told.get c = false → (s.cam c).phaser.state ∈ [PhaserState.parked, .releasing, .tracking] →
        s.hearAssertion.cam c = (s.cam c).stood s.parkLine ∧
        ((s.cam c).phaser.learning = true → s.hearAssertion.noticeSet (.learnEnded c) = true))) := by
  obtain ⟨cam, ended⟩ := State.takeUp_cam (s := s.drawLagging) (c := c) hforced
  have told : s.drawLagging.takeUp.told.get c = (s.told.get c && s.drawLagging.lagging.get c) :=
    s.drawLagging.takeUp_told c
  have lagging : s.drawLagging.takeUp.lagging = s.drawLagging.lagging := by
    have takes : s.drawLagging.takeUp = _ := s.drawLagging.takeUp_takes
    exact (congrArg State.lagging takes).trans rfl
  constructor
  · intro ht
    by_cases h : s.told = .const false
    · rw [State.hearAssertion_of_none h]
      exact ⟨ht, rfl⟩
    · rw [show s.hearAssertion = s.drawLagging.takeUp from if_neg h, told, ht, cam,
        if_neg fun hn => Bool.false_ne_true (ht.symm.trans hn.1)]
      exact ⟨rfl, rfl⟩
  · intro ht
    rw [State.hearAssertion_of_told ht, told, ht, Bool.true_and, lagging, ← PhaserState.inService_iff]
    refine ⟨rfl, fun hstay => ?_, fun hl hp => ⟨?_, ended ht hl hp⟩⟩
    · rw [cam, if_neg fun hn => ?_]
      · rfl
      · obtain ⟨-, hl, hp⟩ := hn
        exact hstay.elim (fun hl' => absurd (hl.symm.trans hl') nofun) fun hp' => hp' hp
    · rw [cam, if_pos ⟨ht, hl, hp⟩]
      rfl

/-! ### The channels under the line -/

theorem Channel.not_mayDrive_asserted (h : Channel) : ¬ h.mayDrive .asserted = true := fun hm =>
  nomatch ((Channel.mayDrive_iff _ _).1 hm).2.1

theorem Channel.not_driven {h : Channel} (ho : h.output = .off) : ¬ h.output = .driven := by
  rw [ho]
  nofun

theorem Channel.follow_asserted {h : Channel} (hb : h.output = .off → h.switchClosed = false ∧ h.duty = 0) :
    (h.follow .asserted).output = .off ∧ (h.follow .asserted).switchClosed = false ∧ (h.follow .asserted).duty = 0 ∧
      (h.follow .asserted).mean = h.mean ∧ (h.follow .asserted).latch = h.latch ∧
      (h.follow .asserted).command = h.command := by
  rw [Channel.follow_eq, if_neg h.not_mayDrive_asserted]
  by_cases ho : h.output = .driven
  · rw [if_pos ho]
    exact ⟨rfl, rfl, rfl, rfl, rfl, rfl⟩
  · rw [if_neg ho]
    have off : h.output = .off := by
      cases hd : h.output with
      | off => rfl
      | driven => exact absurd hd ho
    exact ⟨off, (hb off).1, (hb off).2, rfl, rfl, rfl⟩

theorem Channel.write_zero_of_off {h : Channel} (ho : h.output = .off) (line : ParkLine) :
    (h.write line 0).output = .off ∧ (h.write line 0).switchClosed = h.switchClosed ∧
      (h.write line 0).duty = h.duty ∧ (h.write line 0).mean = h.mean ∧ (h.write line 0).latch = h.latch := by
  unfold Channel.write
  split
  · exact ⟨ho, rfl, rfl, rfl, rfl⟩
  · rw [Channel.follow_eq, if_neg fun hm => absurd ((Channel.mayDrive_iff _ _).1 hm).1 (Nat.lt_irrefl 0),
      if_neg (Channel.not_driven (by exact ho))]
    exact ⟨ho, rfl, rfl, rfl, rfl⟩

theorem Channel.follow_released {h : Channel} (ho : h.output = .off) :
    h.follow .released =
      if 0 < h.command ∧ h.latch = .none then
        { h with output := .driven, switchClosed := true, duty := 1000, wholePeriod := false, starting := true }
      else h := by
  have off := Channel.not_driven ho
  rw [Channel.follow_eq]
  by_cases hm : 0 < h.command ∧ h.latch = .none
  · rw [if_pos ((Channel.mayDrive_iff _ _).2 ⟨hm.1, rfl, hm.2⟩), if_neg off, if_pos hm]
    rfl
  · rw [if_neg fun hn => hm ⟨((Channel.mayDrive_iff _ _).1 hn).1, ((Channel.mayDrive_iff _ _).1 hn).2.2⟩, if_neg off,
      if_neg hm]

/-! ### The state an assertion comes to -/

/-- The part as the line has become ASSERTED at the channels, before any sequencer takes it (R145). -/
def State.lowered (s : State) : State := ({ s with parkn := .low, qualification := none }).assertLine

theorem State.lowered_eq (s : State) :
    s.lowered = { s with
      parkn := .low, qualification := none, parkLine := .asserted, told := .const true, cams := s.lowered.cams
      notices := s.notices ||| BitVec.twoPow 16 Notice.parkLine.bit } := by
  have followed := State.followPark_eq (({ s with
    parkn := .low, qualification := none, parkLine := .asserted, told := .const true } : State).notify .parkLine)
  exact followed

theorem State.lowered_cam (s : State) (c : Cam) :
    s.lowered.cam c = { s.cam c with channel := (s.cam c).channel.follow .asserted } :=
  State.followPark_cam (({ s with
    parkn := .low, qualification := none, parkLine := .asserted, told := .const true } : State).notify .parkLine) c

theorem State.lowered_parkLine (s : State) : s.lowered.parkLine = .asserted := congrArg State.parkLine s.lowered_eq

theorem State.lowered_told (s : State) (c : Cam) : s.lowered.told.get c = true :=
  (congrArg (fun u : State => u.told.get c) s.lowered_eq).trans (PerCam.get_const _ _)

theorem State.lowered_notice (s : State) : s.lowered.noticeSet .parkLine = true := by
  rw [State.lowered_eq]
  exact State.notify_set_self { s with parkn := .low } .parkLine

theorem exec_parkLineAssert_of_fall {s : State} (hr : s.rstn = .high) (hp : s.parkn = .high) (hl : s.parkLine = .released) :
    exec .parkLineAssert s = .next s.lowered.hearAssertion := by
  have up : ¬ s.rstn = .low := by
    rw [hr]
    nofun
  have fall : s.fallOfParkn = s.lowered.hearAssertion := by
    unfold State.fallOfParkn
    refine (if_neg up).trans ?_
    dsimp only
    unfold State.lowered State.assertLine
    rw [hl]
  refine congrArg Host.Outcome.next ?_
  rw [hp]
  exact fall

end Sys2Proof.Machine

/-! ## What the park line's commands do (O51) -/

namespace Sys2Proof.Machine

/-! ### A fall of PARKN under a RELEASED line -/

theorem Sound.quiet_command {s : State} (hs : Sound s) {c : Cam}
    (h : (s.cam c).phaser.state ∉ [PhaserState.parked, .releasing, .tracking]) : (s.cam c).channel.command = 0 :=
  (hs.cams c).command.2.2 (fun hp => h (by rw [hp]; decide)) fun hp => h (by rw [hp]; decide)

theorem Sound.off_quiet {s : State} (hs : Sound s) (c : Cam) (h : (s.cam c).channel.output = .off) :
    (s.cam c).channel.switchClosed = false ∧ (s.cam c).channel.duty = 0 := by
  obtain ⟨-, ⟨quiet, -, -⟩, -⟩ := (channelSound_iff s c).1 (hs.cams c).channel
  exact ⟨(quiet h).1, (quiet h).2.1⟩

/-- What the fall makes of a cam: one that lags keeps its command and its block, one that takes the assertion is
FORCED. -/
theorem Sound.lowered_cam {s : State} (hs : Sound s) (c : Cam) {k : CamState} (hk : k = s.lowered.hearAssertion.cam c) :
    k.lane = (s.cam c).lane ∧ k.arbiter = (s.cam c).arbiter ∧
      k.channel.output = .off ∧ k.channel.switchClosed = false ∧ k.channel.duty = 0 ∧
      k.channel.mean = (s.cam c).channel.mean ∧ k.channel.latch = (s.cam c).channel.latch ∧
      (s.lowered.hearAssertion.told.get c = true → k.phaser = (s.cam c).phaser ∧ k.loop = (s.cam c).loop ∧
        k.channel.command = (s.cam c).channel.command) ∧
      (s.lowered.hearAssertion.told.get c = false →
        k.channel.command = 0 ∧
        ((s.cam c).phaser.state ∈ [PhaserState.parked, .releasing, .tracking] →
          k.loop = ⟨0, 0⟩ ∧
          k.phaser = { (s.cam c).phaser.aborted with
            state := .forced, releaseCount := 0, parkRun := 0, errorRun := 0, eventSeen := false
            allOver := true } ∧
          ((s.cam c).phaser.learning = true → s.lowered.hearAssertion.noticeSet (.learnEnded c) = true)) ∧
        ((s.cam c).phaser.state ∉ [PhaserState.parked, .releasing, .tracking] →
          k.phaser = (s.cam c).phaser ∧ k.loop = (s.cam c).loop)) := by
  have heard := (State.hearAssertion_cam (s := s.lowered) (c := c) fun _ => s.lowered_parkLine).2 (s.lowered_told c)
  obtain ⟨-, kept, stood⟩ := heard
  rw [← hk, State.lowered_cam] at kept stood
  rw [State.lowered_parkLine] at stood
  dsimp only at kept stood
  obtain ⟨output, switch, duty, mean, latch, command⟩ := Channel.follow_asserted (hs.off_quiet c)
  by_cases taken : s.lowered.hearAssertion.told.get c = false ∧
      (s.cam c).phaser.state ∈ [PhaserState.parked, .releasing, .tracking]
  · obtain ⟨ht, hp⟩ := taken
    obtain ⟨hcam, ended⟩ := stood ht hp
    obtain ⟨woutput, wswitch, wduty, wmean, wlatch⟩ := Channel.write_zero_of_off output .asserted
    rw [hcam]
    refine ⟨rfl, rfl, woutput, wswitch.trans switch, wduty.trans duty, wmean.trans mean, wlatch.trans latch,
      fun h => absurd (ht.symm.trans h) nofun, fun _ => ⟨Channel.write_command _ _ _, fun _ => ⟨rfl, rfl, ended⟩,
        fun hn => absurd hp hn⟩⟩
  · have hcam : k = { s.cam c with channel := (s.cam c).channel.follow .asserted } := kept <| by
      cases ht : s.lowered.hearAssertion.told.get c with
      | true => exact .inl rfl
      | false => exact .inr fun hp => taken ⟨ht, hp⟩
    rw [hcam]
    refine ⟨rfl, rfl, output, switch, duty, mean, latch, fun _ => ⟨rfl, rfl, command⟩, fun ht => ?_⟩
    have still : (s.cam c).phaser.state ∉ [PhaserState.parked, .releasing, .tracking] := fun hp => taken ⟨ht, hp⟩
    exact ⟨command.trans (hs.quiet_command still), fun hp => absurd hp still, fun _ => ⟨rfl, rfl⟩⟩

theorem State.lowered_hearAssertion_eq (s : State) :
    s.lowered.hearAssertion = { s with
      parkn := .low, parkLine := .asserted, qualification := none
      told := s.lowered.hearAssertion.lagging, lagging := s.lowered.hearAssertion.lagging, fresh := s.fresh + 1
      cams := s.lowered.hearAssertion.cams, notices := s.lowered.hearAssertion.notices } := by
  have told : s.lowered.hearAssertion.told = s.lowered.hearAssertion.lagging := PerCam.ext_get fun c =>
    ((State.hearAssertion_cam (s := s.lowered) (c := c) fun _ => s.lowered_parkLine).2 (s.lowered_told c)).1
  have drawn := State.drawLagging_takeUp_eq s.lowered
  rw [← State.hearAssertion_of_told (s.lowered_told .fi)] at drawn
  have frame := s.lowered_eq
  generalize s.lowered.hearAssertion = u at told drawn ⊢
  generalize s.lowered = w at drawn frame
  have lagging : u.lagging = w.drawLagging.lagging := (congrArg State.lagging drawn).trans rfl
  refine drawn.trans ?_
  rw [told, lagging, frame]

/-! ### A rise of PARKN, and a release of the line -/

theorem Sound.asserted_of_low {s : State} (hs : Sound s) (hr : s.rstn = .high) (hp : s.parkn = .low) :
    s.parkLine = .asserted := by
  have line := hs.parkLine
  unfold ParkLineSound at line
  rw [hr, hp] at line
  exact line.1

theorem Sound.untold_of_held {s : State} (hs : Sound s) (hr : s.rstn = .low) :
    s.qualification = none ∧ s.told = .const false := by
  have line := hs.parkLine
  unfold ParkLineSound at line
  rw [hr] at line
  exact line

theorem Sound.asserted_of_qualification {s : State} (hs : Sound s) (hp : s.parkn = .high) {t0 : Nat}
    (hq : s.qualification = some t0) : s.parkLine = .asserted := by
  have line := hs.parkLine
  unfold ParkLineSound at line
  cases hr : s.rstn with
  | high =>
    rw [hr, hp] at line
    exact line.2 (by rw [hq]; rfl)
  | low =>
    rw [hr] at line
    have none : s.qualification = none := line.1
    rw [hq] at none
    cases none

/-- Under an ASSERTED line a channel is OFF, and a FORCED cam commands nothing (R106, R136). -/
theorem Sound.releaseLine_cam {s : State} (hs : Sound s) (hl : s.parkLine = .asserted) (c : Cam) :
    s.releaseLine.cam c = { s.cam c with
      phaser := { (s.cam c).phaser with state :=
        if (s.cam c).phaser.state = .forced then .parked else (s.cam c).phaser.state }
      channel := if 0 < (s.cam c).channel.command ∧ (s.cam c).channel.latch = .none then
          { (s.cam c).channel with
            output := .driven, switchClosed := true, duty := 1000, wholePeriod := false, starting := true }
        else (s.cam c).channel } := by
  obtain ⟨follows, -, -⟩ := (channelSound_iff s c).1 (hs.cams c).channel
  have off : (s.cam c).channel.output = .off := by
    cases ho : (s.cam c).channel.output with
    | off => rfl
    | driven => exact absurd (hl ▸ follows.1 ho) (Channel.not_mayDrive_asserted _)
  rw [State.releaseLine_cam, ← Channel.follow_released off]
  by_cases hf : (s.cam c).phaser.state = .forced
  · have quiet : (s.cam c).channel.command = 0 := hs.quiet_command (by rw [hf]; decide)
    rw [if_pos hf, if_pos hf, Channel.write, if_pos ((Channel.follow_command _ _).trans quiet).symm]
  · rw [if_neg hf, if_neg hf]

theorem State.setParkn_self {s : State} (h : s.parkn = .high) (t : Nat) :
    ({ s with now := t, parkn := .high } : State) = { s with now := t } := by
  rw [← h]

/-- Settles O51: the fall, the occasions, the rise and the release. -/
theorem parkLineForcesAndReleases : Obligations.ParkLineForcesAndReleases := by
  intro s t hs ht
  refine ⟨fun hr hp hl => ⟨_, exec_parkLineAssert_of_fall hr hp hl, s.lowered_hearAssertion_eq, ?_, fun c k hk => ?_⟩,
    fun hr hp hl => ?_, fun hr hp => ?_, ⟨s.hearAssertion, fun hp => ?_, fun hp => ?_, fun hl => ?_, s.hearAssertion_eq,
      fun hnone => ?_, fun c k hk => ?_⟩, fun hr hp => ?_, fun hr => ?_, fun t0 hp hq => ⟨fun early => ?_, fun late => ?_⟩⟩
  · exact s.lowered.hearAssertion_steady.notices _ s.lowered_notice
  · exact hs.lowered_cam c hk
  · have up : ¬ s.rstn = .low := by
      rw [hr]
      nofun
    have sound : Sound { s with parkn := .low, qualification := none } := by
      refine hs.with_parkn ?_
      unfold ParkLineSound
      simp [hr, hl]
    have fall : s.fallOfParkn = { s with parkn := .low, qualification := none } := by
      unfold State.fallOfParkn
      refine (if_neg up).trans (Eq.trans ?_ sound.followPark_eq)
      dsimp only
      rw [hl]
    refine congrArg Host.Outcome.next ?_
    rw [hp]
    exact fall
  · refine congrArg Host.Outcome.next ?_
    rw [hp]
    exact if_pos hr
  · refine congrArg Host.Outcome.next ?_
    rw [hp]
  · exact congrArg Host.Outcome.next ((State.at_of_le ht _).trans ((if_pos hp).trans (s.hearAssertion_later t)))
  · exact congrArg Host.Outcome.next ((State.at_of_le ht _).trans ((if_pos hl).trans (s.hearAssertion_later t)))
  · exact State.hearAssertion_of_none ((told_const_false_iff _).2 hnone)
  · obtain ⟨untold, told⟩ := State.hearAssertion_cam (s := s) (c := c) (hs.cams c).sequencer.2.2.1
    subst hk
    refine ⟨untold, fun h => ?_⟩
    obtain ⟨lagging, kept, stood⟩ := told h
    refine ⟨lagging, kept, fun ht hp => ?_⟩
    obtain ⟨cam, ended⟩ := stood ht hp
    refine ⟨?_, ended⟩
    rw [cam, CamState.stood, ParkLine.restState_eq]
  · have low : ¬ s.parkn = .high := by
      rw [hp]
      nofun
    exact congrArg Host.Outcome.next ((State.at_of_le ht _).trans
      ((if_neg low).trans (if_pos ⟨hr, hs.asserted_of_low hr hp⟩)))
  · refine congrArg Host.Outcome.next ((State.at_of_le ht _).trans ?_)
    by_cases hp : s.parkn = .high
    · rw [State.setParkn_self hp]
      exact (if_pos hp).trans (State.hearAssertion_of_none (hs.untold_of_held hr).2)
    · refine (if_neg hp).trans (if_neg fun h => ?_)
      exact absurd (hr.symm.trans h.1) nofun
  · have asserted := hs.asserted_of_qualification hp hq
    have unreleased : ¬ s.parkLine = .released := by
      rw [asserted]
      nofun
    refine congrArg Host.Outcome.next ((State.at_of_le ht _).trans ((if_neg unreleased).trans (if_neg fun h => ?_)))
    obtain ⟨x, hx, hle⟩ := (timer_expired_iff _ _ _).1 h.2
    have : t0 = x := Option.some.inj (hq.symm.trans hx)
    omega
  · have asserted := hs.asserted_of_qualification hp hq
    have unreleased : ¬ s.parkLine = .released := by
      rw [asserted]
      nofun
    have guard := (timer_expired_iff s.qualification 1 t).2 ⟨t0, hq, late⟩
    refine ⟨(State.releaseLine { s with now := t }).cams, congrArg Host.Outcome.next ((State.at_of_le ht _).trans
      ((if_neg unreleased).trans ((if_pos ⟨hp, guard⟩).trans (State.releaseLine_eq _)))), fun c => ?_⟩
    exact (hs.later ht).releaseLine_cam asserted c

end Sys2Proof.Machine

/-! ## A cam's part of a tooth in ENGINE_SYNC (R17, R36, R37, R96) -/

namespace Sys2Proof.Machine

/-! ### What a cam's sequencer does does not depend on its windows -/

/-- `u` has the cam of `s` but for the lane, under the same items and line. -/
structure LaneApart (c : Cam) (s u : State) : Prop where
  cam : u.cam c = { s.cam c with lane := (u.cam c).lane }
  items : u.items = s.items
  parkLine : u.parkLine = s.parkLine

namespace LaneApart

variable {c : Cam} {s u : State} (h : LaneApart c s u)
include h

theorem phaser : (u.cam c).phaser = (s.cam c).phaser := by rw [h.cam]
theorem arbiter : (u.cam c).arbiter = (s.cam c).arbiter := by rw [h.cam]
theorem loop : (u.cam c).loop = (s.cam c).loop := by rw [h.cam]
theorem channel : (u.cam c).channel = (s.cam c).channel := by rw [h.cam]
theorem cfg : u.cfg c = s.cfg c := congrArg (fun x => x.cam.get c) h.items

theorem faulted (cause : Cause) :
    (u.faulted c cause).cam c = { (s.faulted c cause).cam c with lane := (u.cam c).lane } := by
  rw [State.faulted_cam, State.faulted_cam, h.phaser, h.arbiter, h.channel, h.parkLine]

theorem reported (cause : Cause) :
    (u.reported c cause).cam c = { (s.reported c cause).cam c with lane := (u.cam c).lane } := by
  unfold State.reported
  rw [h.phaser]
  split
  · rw [State.faultAdded_cam, State.faultAdded_cam, h.phaser]
    rw [h.cam]
  · exact h.faulted cause

/-- A sequencer replaced alike, the lane apart. -/
theorem set_phaser (q : Sequencer) :
    LaneApart c { s with cams := s.cams.set c { s.cam c with phaser := q } }
      { u with cams := u.cams.set c { u.cam c with phaser := q } } where
  cam := by
    rw [State.cam_of_set, State.cam_of_set]
    dsimp only
    rw [h.arbiter, h.loop, h.channel]
  items := h.items
  parkLine := h.parkLine

theorem set_phaser_cam (q : Sequencer) :
    ({ u with cams := u.cams.set c { u.cam c with phaser := q } } : State).cam c =
      { ({ s with cams := s.cams.set c { s.cam c with phaser := q } } : State).cam c with lane := (u.cam c).lane } := by
  rw [State.cam_of_set, State.cam_of_set]
  dsimp only
  rw [h.arbiter, h.loop, h.channel]

theorem set_phaser_faulted (q : Sequencer) (cause : Cause) :
    (({ u with cams := u.cams.set c { u.cam c with phaser := q } } : State).faulted c cause).cam c =
      { (({ s with cams := s.cams.set c { s.cam c with phaser := q } } : State).faulted c cause).cam c with
        lane := (u.cam c).lane } := by
  rw [(h.set_phaser q).faulted, State.cam_of_set]

/-- The bumpless preset reads of the lane the displacement and its valid flag alone (R102). -/
theorem preset (hv : (u.cam c).lane.valid = (s.cam c).lane.valid) (hd : (u.cam c).lane.d = (s.cam c).lane.d) :
    u.preset c = s.preset c := by
  unfold State.preset
  rw [hv, hd, h.cfg]

theorem releaseMark (hp : (s.cam c).phaser.state = .releasing)
    (hv : (u.cam c).lane.valid = (s.cam c).lane.valid) (hd : (u.cam c).lane.d = (s.cam c).lane.d) :
    (u.cycleMark c).cam c = { (s.cycleMark c).cam c with lane := (u.cam c).lane } := by
  obtain ⟨-, releasing, -, -⟩ := cycleMarkMovesTheSequencer s { s with cams := s.cams.set c { s.cam c with
    phaser := { (s.cam c).phaser with releaseCount := (s.cam c).phaser.releaseCount + 1 } } } c _ rfl
  obtain ⟨-, releasing', -, -⟩ := cycleMarkMovesTheSequencer u { u with cams := u.cams.set c { u.cam c with
    phaser := { (s.cam c).phaser with releaseCount := (s.cam c).phaser.releaseCount + 1 } } } c _ h.phaser.symm
  obtain ⟨unlock, locked⟩ := releasing hp rfl
  obtain ⟨unlock', locked'⟩ := releasing' hp rfl
  rw [h.cfg] at unlock' locked'
  by_cases hu : 0 < (s.cfg c).unlockCycles ∧ (s.cam c).phaser.releaseCount + 1 = (s.cfg c).unlockCycles
  · rw [unlock hu.1 hu.2, unlock' hu.1 hu.2, h.preset hv hd, State.cam_of_set, State.cam_of_set]
    dsimp only
    rw [h.arbiter, h.channel]
  · have hn : (s.cfg c).unlockCycles = 0 ∨ (s.cam c).phaser.releaseCount + 1 ≠ (s.cfg c).unlockCycles := by omega
    obtain ⟨stuck, counted⟩ := locked hn
    obtain ⟨stuck', counted'⟩ := locked' hn
    by_cases hl : (s.cam c).phaser.releaseCount + 1 = (s.cfg c).releaseLimit
    · rw [stuck hl, stuck' hl]
      exact h.set_phaser_faulted _ _
    · rw [counted hl, counted' hl]
      exact h.set_phaser_cam _

theorem trackMark (hp : (s.cam c).phaser.state = .tracking) :
    (u.cycleMark c).cam c = { (s.cycleMark c).cam c with lane := (u.cam c).lane } := by
  have marks := fun m => (cycleMarkMovesTheSequencer s m c _ rfl).2.2
  have marks' := fun m => (cycleMarkMovesTheSequencer u m c _ h.phaser.symm).2.2
  rw [h.cfg] at marks'
  by_cases h0 : (s.cfg c).trackErrLimit = 0
  · rw [(marks s).1 hp h0, (marks' u).1 hp h0]
    exact h.cam
  · obtain ⟨following, closed⟩ := (marks _).2 hp h0 _ rfl rfl
    obtain ⟨following', closed'⟩ := (marks' _).2 hp h0 _ rfl rfl
    by_cases hr : (if (s.cam c).phaser.eventSeen = false then (s.cam c).phaser.errorRun
        else if (s.cam c).phaser.allOver = true then (s.cam c).phaser.errorRun + 1 else 0) = (s.cfg c).trackErrCycles
    · rw [following hr, following' hr]
      exact h.set_phaser_faulted _ _
    · rw [closed hr, closed' hr]
      exact h.set_phaser_cam _

/-- A cycle mark moves the cam alike (R96). -/
theorem cycleMark (hv : (u.cam c).lane.valid = (s.cam c).lane.valid) (hd : (u.cam c).lane.d = (s.cam c).lane.d) :
    (u.cycleMark c).cam c = { (s.cycleMark c).cam c with lane := (u.cam c).lane } := by
  have rests : (s.cam c).phaser.state ∈ [PhaserState.disabled, .parked, .forced, .fault] →
      (u.cycleMark c).cam c = { (s.cycleMark c).cam c with lane := (u.cam c).lane } := fun hp => by
    rw [(cycleMarkMovesTheSequencer s s c _ rfl).1 hp, (cycleMarkMovesTheSequencer u u c _ h.phaser.symm).1 hp]
    exact h.cam
  cases hp : (s.cam c).phaser.state with
  | releasing => exact h.releaseMark hp hv hd
  | tracking => exact h.trackMark hp
  | disabled => exact rests (by rw [hp]; decide)
  | parked => exact rests (by rw [hp]; decide)
  | forced => exact rests (by rw [hp]; decide)
  | fault => exact rests (by rw [hp]; decide)

end LaneApart

end Sys2Proof.Machine

/-! ## The closes of a cam's windows at a tooth (R17, R36, R37) -/

namespace Sys2Proof.Machine

/-! ### The miss run -/

/-- The miss run after some misses more (R36). -/
def runAfter (run limit missed : Nat) : Nat := if run < limit then min (run + missed) limit else run

/-- Some misses more bring the run to its limit (R37). -/
def signalled (run limit missed : Nat) : Bool := decide (run < limit ∧ limit ≤ run + missed)

theorem signalled_zero (run limit : Nat) : signalled run limit 0 = false :=
  decide_eq_false (by omega)

theorem runAfter_zero (run limit : Nat) : runAfter run limit 0 = run := by
  unfold runAfter
  split <;> omega

/-! ### A cam that a missed pass has reported -/

/-- `u` stands as SIGNAL reported at a cam of `s`, its lane apart (R87, R109, R110). -/
structure Reports (c : Cam) (s u : State) : Prop where
  cam : u.cam c = { (s.reported c .signal).cam c with lane := (u.cam c).lane }
  pending : (s.cam c).phaser.state ≠ .fault → u.PendingFor c ∧
    ((s.cam c).phaser.learning = true → u.noticeSet (.learnEnded c) = true)
  notice : u.noticeSet (.phaserFault c) = true
  faults : u.counters.get (.ofCam c .faults) =
    counterNext s.items.global.counterWrap (s.counters.get (.ofCam c .faults))

theorem State.faultAdded_notice (s : State) (c : Cam) (cause : Cause) :
    (s.faultAdded c cause).noticeSet (.phaserFault c) = true := s.notify_set_self (.phaserFault c)

/-- What a report at an enabled cam brings (R109, R110). -/
theorem LaneApart.reports {c : Cam} {s u : State} (h : LaneApart c s u)
    (hf : u.counters.get (.ofCam c .faults) = s.counters.get (.ofCam c .faults)) :
    Reports c s (u.reported c .signal) where
  cam := by
    rw [h.reported]
  pending hn := by
    rw [State.reported, h.phaser, if_neg hn]
    exact ⟨u.faulted_pendingFor c _, fun hl => State.faulted_learnEnded (by rw [h.phaser]; exact hl) _⟩
  notice := by
    unfold State.reported
    split
    · exact u.faultAdded_notice c _
    · exact u.faulted_notice c _
  faults := by
    have counted : (u.reported c .signal).counters.get (.ofCam c .faults) =
        counterNext u.items.global.counterWrap (u.counters.get (.ofCam c .faults)) := by
      unfold State.reported
      split
      · exact u.faulted_faults c .signal
      · exact u.faulted_faults c .signal
    rw [counted, h.items, hf]

theorem State.reported_missed (s : State) (c : Cam) (cause : Cause) :
    (s.reported c cause).counters.get (.ofCam c .missed) = s.counters.get (.ofCam c .missed) := by
  have kept := Counters.get_put_ne s.counters (j := .ofCam c .missed) (i := .ofCam c .faults) nofun
  unfold State.reported
  split
  · exact kept _
  · exact kept _

theorem State.reported_state (s : State) (c : Cam) (cause : Cause) :
    ((s.reported c cause).cam c).phaser.state = .fault := by
  unfold State.reported
  split
  next hf =>
    rw [State.faultAdded_cam]
    exact hf
  next =>
    rw [State.faulted_cam]

/-! ### What leaves a cam's part of a tooth -/

/-- What concerns a cam stands. -/
structure Keeps (c : Cam) (s u : State) : Prop where
  items : u.items = s.items
  parkLine : u.parkLine = s.parkLine
  cam : u.cam c = s.cam c
  pending : s.PendingFor c → u.PendingFor c
  notices : ∀ n : Notice, s.noticeSet n = true → u.noticeSet n = true
  counts : ∀ i : CamCounter, u.counters.get (.ofCam c i) = s.counters.get (.ofCam c i)

theorem Beside.keeps {c : Cam} {s u : State} (h : Beside c s u) : Keeps c s u :=
  ⟨h.items, h.parkLine, h.cam, h.pending, h.notices, h.counts⟩

theorem Keeps.trans {c : Cam} {s u v : State} (h : Keeps c s u) (k : Keeps c u v) : Keeps c s v :=
  ⟨k.items.trans h.items, k.parkLine.trans h.parkLine, k.cam.trans h.cam, fun p => k.pending (h.pending p),
    fun n hn => k.notices n (h.notices n hn), fun i => (k.counts i).trans (h.counts i)⟩

theorem Reports.keeps {c : Cam} {s u v : State} (h : Reports c s u) (k : Keeps c u v) : Reports c s v where
  cam := by
    rw [k.cam]
    exact h.cam
  pending hn := ⟨k.pending (h.pending hn).1, fun hl => k.notices _ ((h.pending hn).2 hl)⟩
  notice := k.notices _ h.notice
  faults := (k.counts _).trans h.faults

/-- The lane moves, or a miss is counted, after the report. -/
theorem Reports.moved {c : Cam} {s u v : State} (h : Reports c s u) (hc : v.cam c = { u.cam c with lane := (v.cam c).lane })
    (ht : v.table = u.table) (hn : v.notices = u.notices)
    (hf : v.counters.get (.ofCam c .faults) = u.counters.get (.ofCam c .faults)) : Reports c s v where
  cam := by
    refine hc.trans ?_
    rw [h.cam]
  pending hs := by
    obtain ⟨pending, ended⟩ := h.pending hs
    refine ⟨?_, fun hl => ?_⟩
    · unfold State.PendingFor
      rw [ht]
      exact pending
    · rw [State.noticeSet, hn]
      exact ended hl
  notice := by
    rw [State.noticeSet, hn]
    exact h.notice
  faults := hf.trans h.faults

/-! ### A cam some of whose windows have closed -/

/-- From `s` to `u` a cam's windows have become `ws`, with `n` of the passes closed missed (R36, R37). -/
structure Closes (c : Cam) (s : State) (ws : List Window) (n : Nat) (u : State) : Prop where
  items : u.items = s.items
  parkLine : u.parkLine = s.parkLine
  lane : (u.cam c).lane = { (s.cam c).lane with
    windows := ws
    missRun := runAfter (s.cam c).lane.missRun (s.cfg c).missLimit n
    valid := if signalled (s.cam c).lane.missRun (s.cfg c).missLimit n = true then false else (s.cam c).lane.valid }
  missed : u.counters.get (.ofCam c .missed) =
    Nat.repeat (counterNext s.items.global.counterWrap) n (s.counters.get (.ofCam c .missed))
  reports : signalled (s.cam c).lane.missRun (s.cfg c).missLimit n = true → Reports c s u
  quiet : signalled (s.cam c).lane.missRun (s.cfg c).missLimit n = false →
    u.cam c = { s.cam c with lane := (u.cam c).lane } ∧
      u.counters.get (.ofCam c .faults) = s.counters.get (.ofCam c .faults)

namespace Closes

variable {c : Cam} {s u v : State} {ws : List Window} {n : Nat}

theorem start (k : Keeps c s u) : Closes c s (s.cam c).lane.windows 0 u where
  items := k.items
  parkLine := k.parkLine
  lane := by
    rw [k.cam, signalled_zero, runAfter_zero]
    rfl
  missed := k.counts .missed
  reports h := by
    rw [signalled_zero] at h
    cases h
  quiet _ := ⟨by rw [k.cam], k.counts .faults⟩

theorem keeps (h : Closes c s ws n u) (k : Keeps c u v) : Closes c s ws n v where
  items := k.items.trans h.items
  parkLine := k.parkLine.trans h.parkLine
  lane := by
    rw [k.cam]
    exact h.lane
  missed := (k.counts _).trans h.missed
  reports hs := (h.reports hs).keeps k
  quiet hs := by
    rw [k.cam, k.counts]
    exact h.quiet hs

theorem apart (h : Closes c s ws n u) (hs : signalled (s.cam c).lane.missRun (s.cfg c).missLimit n = false) :
    LaneApart c s u := ⟨(h.quiet hs).1, h.items, h.parkLine⟩

theorem state (h : Closes c s ws n u) :
    (u.cam c).phaser.state = .fault ∨ (u.cam c).phaser = (s.cam c).phaser := by
  cases hs : signalled (s.cam c).lane.missRun (s.cfg c).missLimit n with
  | true =>
    left
    rw [(h.reports hs).cam]
    exact s.reported_state c _
  | false => exact .inr (h.apart hs).phaser

theorem enabled (h : Closes c s ws n u) (he : s.enabled c = true) : u.enabled c = true := by
  rw [State.enabled_iff] at he ⊢
  obtain hf | hp := h.state
  · rw [hf]
    nofun
  · rw [hp]
    exact he

theorem cfg (h : Closes c s ws n u) : u.cfg c = s.cfg c := congrArg (fun x => x.cam.get c) h.items

/-- The windows alone are replaced. -/
theorem setWindows (h : Closes c s ws n u) (zs : List Window) :
    Closes c s zs n (u.setLane c { (u.cam c).lane with windows := zs }) where
  items := h.items
  parkLine := h.parkLine
  lane := by
    rw [State.setLane, State.setCam_cam_self, h.lane]
  missed := h.missed
  reports hs := (h.reports hs).moved (by rw [State.setLane, State.setCam_cam_self]) rfl rfl rfl
  quiet hs := by
    obtain ⟨cam, faults⟩ := h.quiet hs
    refine ⟨?_, faults⟩
    rw [State.setLane, State.setCam_cam_self]
    dsimp only
    rw [(h.apart hs).phaser, (h.apart hs).arbiter, (h.apart hs).loop, (h.apart hs).channel]

end Closes

end Sys2Proof.Machine

/-! ## A miss, after the closes before it (R36, R37) -/

namespace Sys2Proof.Machine

theorem State.count_missed_faults (s : State) (c : Cam) :
    (s.count (.ofCam c .missed)).counters.get (.ofCam c .faults) = s.counters.get (.ofCam c .faults) :=
  Counters.get_put_ne s.counters (j := .ofCam c .faults) (i := .ofCam c .missed) nofun _

theorem LaneApart.missed {c : Cam} {s u : State} (h : LaneApart c s u) (l : Lane) :
    LaneApart c s ((u.count (.ofCam c .missed)).setLane c l) where
  cam := by
    rw [State.setLane, State.setCam_cam_self, State.count_cam]
    dsimp only
    rw [h.phaser, h.arbiter, h.loop, h.channel]
  items := h.items
  parkLine := h.parkLine

namespace Closes

variable {c : Cam} {s u v : State} {ws : List Window} {n : Nat}

theorem counted (h : Closes c s ws n u) : (u.count (.ofCam c .missed)).counters.get (.ofCam c .missed) =
    Nat.repeat (counterNext s.items.global.counterWrap) (n + 1) (s.counters.get (.ofCam c .missed)) := by
  have counted : (u.count (.ofCam c .missed)).counters.get (.ofCam c .missed) =
      counterNext u.items.global.counterWrap (u.counters.get (.ofCam c .missed)) :=
    Counters.get_put_self u.counters (.ofCam c .missed) _
  rw [counted, h.missed, h.items]
  rfl

/-- One miss more with the lane set to what it makes of it, and no report (R36). -/
theorem missed_lane (h : Closes c s ws n u) {l : Lane}
    (hl : l = { (u.cam c).lane with missRun := runAfter (s.cam c).lane.missRun (s.cfg c).missLimit (n + 1) })
    (hs : signalled (s.cam c).lane.missRun (s.cfg c).missLimit (n + 1) =
      signalled (s.cam c).lane.missRun (s.cfg c).missLimit n) :
    Closes c s ws (n + 1) ((u.count (.ofCam c .missed)).setLane c l) where
  items := h.items
  parkLine := h.parkLine
  lane := by
    rw [State.setLane, State.setCam_cam_self, hl, h.lane, hs]
  missed := h.counted
  reports hr := (h.reports (hs ▸ hr)).moved (by rw [State.setLane, State.setCam_cam_self]; rfl) rfl rfl
    (u.count_missed_faults c)
  quiet hr := ⟨((h.apart (hs ▸ hr)).missed l).cam, (u.count_missed_faults c).trans (h.quiet (hs ▸ hr)).2⟩

/-- The miss that brings the run to MISS_LIMIT (R37). -/
theorem missed_signal (h : Closes c s ws n u) (he : s.enabled c = true) {l : Lane}
    (hl : l = { (u.cam c).lane with
      missRun := runAfter (s.cam c).lane.missRun (s.cfg c).missLimit (n + 1), valid := false })
    (hn : signalled (s.cam c).lane.missRun (s.cfg c).missLimit n = false)
    (hs : signalled (s.cam c).lane.missRun (s.cfg c).missLimit (n + 1) = true) :
    Closes c s ws (n + 1) (((u.count (.ofCam c .missed)).setLane c l).reportFault c .signal) := by
  have apart := (h.apart hn).missed l
  have faults := (u.count_missed_faults c).trans (h.quiet hn).2
  have move := (((u.count (.ofCam c .missed)).setLane c l).reportFault_localTo c .signal).camsMove
  have enabled : ((u.count (.ofCam c .missed)).setLane c l).enabled c = true := by
    rw [State.enabled_iff, apart.phaser, ← State.enabled_iff]
    exact he
  rw [State.reportFault_eq enabled] at move ⊢
  refine ⟨move.items.trans h.items, move.parkLine.trans h.parkLine, ?_, ?_, fun _ => apart.reports faults,
    fun hq => absurd (hs.symm.trans hq) nofun⟩
  · rw [apart.reported]
    dsimp only
    rw [State.setLane, State.setCam_cam_self, hl, h.lane, hs]
    rfl
  · rw [State.reported_missed]
    exact h.counted

theorem miss (h : Closes c s ws n u) (he : s.enabled c = true) : Closes c s ws (n + 1) (u.miss c) := by
  have run : (u.cam c).lane.missRun = runAfter (s.cam c).lane.missRun (s.cfg c).missLimit n := by rw [h.lane]
  have counted : (u.count (.ofCam c .missed)).setLane c (u.cam c).lane = u.count (.ofCam c .missed) :=
    State.setCam_cam_same _ c
  unfold State.miss
  dsimp only
  rw [h.cfg, run]
  by_cases hlt : runAfter (s.cam c).lane.missRun (s.cfg c).missLimit n < (s.cfg c).missLimit
  · have step : runAfter (s.cam c).lane.missRun (s.cfg c).missLimit n + 1 =
        runAfter (s.cam c).lane.missRun (s.cfg c).missLimit (n + 1) := by
      unfold runAfter at hlt ⊢
      split at hlt
      next hr =>
        rw [if_pos hr, if_pos hr]
        omega
      next hr => exact absurd hlt hr
    rw [if_pos hlt]
    have below : (s.cam c).lane.missRun < (s.cfg c).missLimit ∧
        (s.cam c).lane.missRun + n < (s.cfg c).missLimit := by
      unfold runAfter at hlt
      split at hlt <;> omega
    have unsignalled : signalled (s.cam c).lane.missRun (s.cfg c).missLimit n = false :=
      decide_eq_false fun hn => by omega
    by_cases hlast : runAfter (s.cam c).lane.missRun (s.cfg c).missLimit n + 1 = (s.cfg c).missLimit
    · rw [if_pos hlast]
      refine h.missed_signal he (by rw [step]) unsignalled (decide_eq_true ⟨below.1, ?_⟩)
      unfold runAfter at hlast
      rw [if_pos below.1] at hlast
      omega
    · rw [if_neg hlast]
      refine h.missed_lane (by rw [step]) ?_
      rw [unsignalled]
      refine decide_eq_false fun hn => hlast ?_
      unfold runAfter
      rw [if_pos below.1]
      omega
  · rw [if_neg hlt, ← counted]
    have same : runAfter (s.cam c).lane.missRun (s.cfg c).missLimit (n + 1) =
        runAfter (s.cam c).lane.missRun (s.cfg c).missLimit n := by
      unfold runAfter at hlt ⊢
      split at hlt
      next hr =>
        rw [if_pos hr, if_pos hr]
        omega
      next hr => rw [if_neg hr, if_neg hr]
    refine h.missed_lane (by rw [same, ← run]) (decide_eq_decide.2 ?_)
    unfold runAfter at hlt
    split at hlt <;> omega

end Closes

end Sys2Proof.Machine

/-! ## The windows that a motion of the clock closes (R17, R36) -/

namespace Sys2Proof.Machine

/-! ### The windows closed so far -/

/-- A window that closes by a motion of the clock (R17). -/
def Window.closes (old new : Nat) (w : Window) : Bool := !w.passed && covers old new w.closeAngle

/-- The pass of a window that closes is a miss (R36). -/
def Window.misses (old new : Nat) (w : Window) : Bool := w.closes old new && !w.hit && !w.late

/-- A window after a motion of the clock (R36). -/
def Window.closed (old new : Nat) (w : Window) : Window := if w.closes old new = true then w.nextPass else w

/-- A window list the first `m` of whose windows a motion of the clock has closed or passed by. -/
def closedTo (old new m : Nat) (ws : List Window) : List Window :=
  ws.mapIdx fun i w => if i < m then w.closed old new else w

theorem closedTo_get (old new m : Nat) (ws : List Window) (i : Nat) :
    (closedTo old new m ws)[i]? = ws[i]?.map fun w => if i < m then w.closed old new else w :=
  List.getElem?_mapIdx

theorem closedTo_get_self (old new m : Nat) (ws : List Window) : (closedTo old new m ws)[m]? = ws[m]? := by
  rw [closedTo_get]
  cases ws[m]? with
  | none => rfl
  | some w => exact congrArg some (if_neg (Nat.lt_irrefl m))

theorem closedTo_zero (old new : Nat) (ws : List Window) : closedTo old new 0 ws = ws := by
  refine List.ext_getElem? fun i => ?_
  rw [closedTo_get]
  cases ws[i]? <;> rfl

theorem closedTo_all {m : Nat} {ws : List Window} (h : ws.length ≤ m) (old new : Nat) :
    closedTo old new m ws = ws.map (Window.closed old new) := by
  refine List.ext_getElem? fun i => ?_
  rw [closedTo_get, List.getElem?_map]
  cases hi : ws[i]? with
  | none => rfl
  | some w =>
    obtain ⟨within, -⟩ := List.getElem?_eq_some_iff.1 hi
    exact congrArg some (if_pos (by omega))

/-- The next position is passed by where its window does not close, or there is none. -/
theorem closedTo_succ_same {old new m : Nat} {ws : List Window} (h : ∀ w, ws[m]? = some w → w.closes old new = false) :
    closedTo old new (m + 1) ws = closedTo old new m ws := by
  refine List.ext_getElem? fun i => ?_
  rw [closedTo_get, closedTo_get]
  cases hi : ws[i]? with
  | none => rfl
  | some w =>
    refine congrArg some ?_
    dsimp only
    by_cases him : i = m
    · subst him
      rw [if_pos i.lt_add_one, if_neg (Nat.lt_irrefl i), Window.closed, h w hi]
      rfl
    · have : i < m + 1 ↔ i < m := by omega
      rw [if_congr this rfl rfl]

/-- The window of the next position closes. -/
theorem closedTo_succ_modify {old new m : Nat} {ws : List Window} {w : Window} (hw : ws[m]? = some w)
    (h : w.closes old new = true) :
    closedTo old new (m + 1) ws = (closedTo old new m ws).modify m Window.nextPass := by
  refine List.ext_getElem? fun i => ?_
  rw [List.getElem?_modify, closedTo_get, closedTo_get]
  by_cases him : m = i
  · subst him
    rw [hw]
    refine congrArg some ?_
    dsimp only
    rw [if_pos rfl, if_pos m.lt_add_one, if_neg (Nat.lt_irrefl m), Window.closed, if_pos h]
  · have : i < m + 1 ↔ i < m := by omega
    cases ws[i]? with
    | none => rfl
    | some z =>
      refine congrArg some ?_
      dsimp only
      rw [if_neg him, if_congr this rfl rfl]

/-- The missed passes of the first `m` windows. -/
def missesTo (old new m : Nat) (ws : List Window) : Nat := (ws.take m).countP (Window.misses old new)

theorem missesTo_zero (old new : Nat) (ws : List Window) : missesTo old new 0 ws = 0 := by
  rw [missesTo, List.take_zero, List.countP_nil]

theorem missesTo_all {m : Nat} {ws : List Window} (h : ws.length ≤ m) (old new : Nat) :
    missesTo old new m ws = ws.countP (Window.misses old new) := by
  rw [missesTo, List.take_of_length_le h]

theorem missesTo_succ (old new m : Nat) (ws : List Window) :
    missesTo old new (m + 1) ws = missesTo old new m ws + if ws[m]?.any (Window.misses old new) = true then 1 else 0 := by
  rw [missesTo, List.take_add_one, List.countP_append]
  refine congrArg (missesTo old new m ws + ·) ?_
  cases ws[m]? with
  | none => rfl
  | some w => exact List.countP_singleton

/-! ### The closes of a cam's windows, in their order -/

namespace Closes

variable {c : Cam} {s u : State} {ws : List Window} {n : Nat}

theorem windows (h : Closes c s ws n u) : (u.cam c).lane.windows = ws := by rw [h.lane]

theorem closeWindow (h : Closes c s ws n u) (he : s.enabled c = true) {j : Nat} {w : Window} (hw : ws[j]? = some w) :
    Closes c s (ws.modify j Window.nextPass) (n + if (!w.hit && !w.late) = true then 1 else 0) (u.closeWindow c j) := by
  have set := h.setWindows (ws.modify j Window.nextPass)
  have step : u.closeWindow c j =
      if w.hit || w.late then u.setLane c { (u.cam c).lane with windows := ws.modify j Window.nextPass }
      else (u.setLane c { (u.cam c).lane with windows := ws.modify j Window.nextPass }).miss c := by
    unfold State.closeWindow
    dsimp only
    rw [h.windows]
    split
    next z hz => rw [Option.some.inj (hw.symm.trans hz)]
    next hz => exact nomatch hw.symm.trans hz
  rw [step, ← Bool.not_or]
  cases w.hit || w.late with
  | true => exact set
  | false => exact set.miss he

theorem closeBy {old new m : Nat} (h : Closes c s (closedTo old new m ws) (missesTo old new m ws) u)
    (he : s.enabled c = true) :
    Closes c s (closedTo old new (m + 1) ws) (missesTo old new (m + 1) ws) (u.closeBy old new c m) := by
  have same : (∀ w, ws[m]? = some w → w.closes old new = false) →
      Closes c s (closedTo old new (m + 1) ws) (missesTo old new (m + 1) ws) u := fun hn => by
    rw [closedTo_succ_same hn, missesTo_succ, if_neg]
    · exact h
    · cases hw : ws[m]? with
      | none => nofun
      | some w =>
        rw [Option.any_some, Window.misses, hn w hw]
        nofun
  unfold State.closeBy
  rw [h.windows, closedTo_get_self]
  split
  next w hw =>
    rw [h.enabled he, Bool.true_and]
    split
    next hc =>
      have count : (if ws[m]?.any (Window.misses old new) = true then 1 else 0) =
          if (!w.hit && !w.late) = true then 1 else 0 := by
        rw [hw, Option.any_some, Window.misses, Window.closes, hc, Bool.true_and]
      rw [closedTo_succ_modify hw hc, missesTo_succ, count]
      exact h.closeWindow he ((closedTo_get_self _ _ _ _).trans hw)
    next hc =>
      refine same fun z hz => ?_
      obtain rfl : w = z := Option.some.inj (hw.symm.trans hz)
      exact Bool.eq_false_iff.2 hc
  next hw => exact same fun w hz => nomatch hw.symm.trans hz

theorem closePositions (k : Keeps c s u) (he : s.enabled c = true) (hl : (s.cam c).lane.windows.length ≤ 4)
    (old new : Nat) :
    Closes c s ((s.cam c).lane.windows.map (Window.closed old new))
      ((s.cam c).lane.windows.countP (Window.misses old new))
      (positions.foldl (fun v j => v.closeBy old new c j) u) := by
  have none : Closes c s (closedTo old new 0 (s.cam c).lane.windows) (missesTo old new 0 (s.cam c).lane.windows) u := by
    rw [closedTo_zero, missesTo_zero]
    exact .start k
  rw [← closedTo_all hl, ← missesTo_all hl]
  exact (((none.closeBy he).closeBy he).closeBy he).closeBy he

end Closes

end Sys2Proof.Machine

/-! ## A cam's part of a tooth in ENGINE_SYNC and of its cycle mark (R9, R17, R36, R37, R96) -/

namespace Sys2Proof.Machine

/-! ### The cycle mark's countdown and the tracker's close leave a cam alone (R19, R60) -/

theorem State.countTimes_get_ne (s : State) {i k : Counter} (h : i ≠ k) (n : Nat) :
    (s.countTimes k n).counters.get i = s.counters.get i := by
  induction n generalizing s with
  | zero => rfl
  | succ n ih =>
    rw [State.countTimes, ih]
    exact Counters.get_put_ne s.counters h _

theorem State.countLifetimes_get_ne (s : State) {i : Counter} (h : i ≠ .lapsedDemands) :
    s.countLifetimes.counters.get i = s.counters.get i := by
  have counted := State.countTimes_get_ne { s with table := s.table.map Slot.countDown } h (lapsing s.table)
  unfold State.countLifetimes
  dsimp only
  split
  · exact counted
  · exact counted

theorem Slot.countDown_some {x : Slot} {r : Record} (h : x.countDown.record = some r) :
    ∃ q, x.record = some q ∧ r.cams = q.cams ∧ r.outcomes = q.outcomes := by
  cases hx : x.record with
  | none =>
    rw [Slot.countDown_of_free hx, hx] at h
    cases h
  | some q =>
    refine ⟨q, rfl, ?_⟩
    by_cases hl : q.lifetime ≠ 0 ∧ q.remaining ≤ 1
    · rw [Slot.countDown_of_lapse hx hl.1 hl.2] at h
      cases h
    · rw [Slot.countDown_of_stay hx (by omega)] at h
      obtain rfl := Option.some.inj h
      exact ⟨rfl, rfl⟩

theorem State.PendingFor.countDown {s u : State} {c : Cam} (h : s.PendingFor c) (ht : u.table = s.table.map Slot.countDown) :
    u.PendingFor c := by
  intro x hx r hr named
  rw [ht] at hx
  obtain ⟨z, hz, rfl⟩ := List.mem_map.1 hx
  obtain ⟨q, hq, cams, outcomes⟩ := Slot.countDown_some hr
  rw [outcomes]
  exact h z hz q hq (cams ▸ named)

theorem State.countLifetimes_cam (s : State) (c : Cam) : s.countLifetimes.cam c = s.cam c := by
  have counted := State.countTimes_eq { s with table := s.table.map Slot.countDown } .lapsedDemands (lapsing s.table)
  unfold State.countLifetimes
  dsimp only
  split
  · rw [counted]
    rfl
  · rw [State.notify_cam, counted]
    rfl

theorem Keeps.countLifetimes (c : Cam) (s : State) : Keeps c s s.countCycle.countLifetimes where
  items := (congrArg State.items s.countCycle.countLifetimes_within).trans rfl
  parkLine := (congrArg State.parkLine s.countCycle.countLifetimes_within).trans rfl
  cam := s.countCycle.countLifetimes_cam c
  pending p := p.countDown s.countCycle.countLifetimes_table
  notices n hn := s.countCycle.countLifetimes_steady.notices n hn
  counts i := (s.countCycle.countLifetimes_get_ne (i := .ofCam c i) nofun).trans rfl

theorem Keeps.setTracker (c : Cam) (s : State) (y : Sync) (v : Nat) : Keeps c s (s.setTracker y v) :=
  ⟨rfl, rfl, rfl, id, fun _ h => h, fun _ => rfl⟩

/-! ### The closes of a tooth -/

theorem Closes.closeTooth {c : Cam} {s u : State} (keeps : Keeps c s u) (he : s.enabled c = true)
    (hl : (s.cam c).lane.windows.length ≤ 4) (k : Tooth) (y : Cycle) (t : Nat) (gap : Bool) :
    ∃ ws, ws = (s.cam c).lane.windows.map (Window.closed y.coveredFrom ((y.halfAfter gap).angle +
        (nextTooth u.items.global k t gap).position * u.items.global.pitchAngle)) ∧
      Closes c s (ws.map fun w => { w with passed := false })
        ((s.cam c).lane.windows.countP (Window.misses y.coveredFrom ((y.halfAfter gap).angle +
          (nextTooth u.items.global k t gap).position * u.items.global.pitchAngle))) (u.closeTooth k y t gap) := by
  unfold State.closeTooth
  generalize (y.halfAfter gap).angle + (nextTooth u.items.global k t gap).position * u.items.global.pitchAngle = angle
  refine ⟨_, rfl, ?_⟩
  obtain ⟨v, before, after⟩ := State.eachCam_split (u.placeTooth k y t gap) c
    (f := fun b x => positions.foldl (fun x j => x.closeBy y.coveredFrom angle b j) x)
    fun b hb x => (Beside.closeRelation hb).closePositions x _ _
  have closed := (Closes.closePositions ((keeps.trans (.setTracker c u _ _)).trans before.keeps) he hl y.coveredFrom
    angle).keeps after.keeps
  obtain ⟨w, before, after⟩ := State.eachCam_split ((u.placeTooth k y t gap).closeAll y.coveredFrom angle) c
    (f := fun b x => x.setLane b ((x.cam b).lane.eachWindow fun w => { w with passed := false }))
    fun b hb x => .setCam hb x _
  have pitched := (closed.keeps before.keeps).setWindows
    (((s.cam c).lane.windows.map (Window.closed y.coveredFrom angle)).map fun w => { w with passed := false })
  refine Closes.keeps ?_ after.keeps
  rw [Lane.eachWindow, (closed.keeps before.keeps).windows]
  exact pitched

/-! ### The cycle mark at a cam -/

/-- What a tooth leaves of a cam whose windows have become `ws` with `n` missed passes: as `v` but for the lane,
where no miss brought a report. -/
structure ToothCam (c : Cam) (s : State) (ws : List Window) (n : Nat) (v : CamState) (u : State) : Prop where
  lane : (u.cam c).lane = { (s.cam c).lane with
    windows := ws
    missRun := runAfter (s.cam c).lane.missRun (s.cfg c).missLimit n
    valid := if signalled (s.cam c).lane.missRun (s.cfg c).missLimit n = true then false else (s.cam c).lane.valid }
  missed : u.counters.get (.ofCam c .missed) =
    Nat.repeat (counterNext s.items.global.counterWrap) n (s.counters.get (.ofCam c .missed))
  reports : signalled (s.cam c).lane.missRun (s.cfg c).missLimit n = true → Reports c s u
  quiet : signalled (s.cam c).lane.missRun (s.cfg c).missLimit n = false → u.cam c = { v with lane := (u.cam c).lane }

theorem ToothCam.keeps {c : Cam} {s u w : State} {ws : List Window} {n : Nat} {v : CamState} (h : ToothCam c s ws n v u)
    (k : Keeps c u w) : ToothCam c s ws n v w where
  lane := by
    rw [k.cam]
    exact h.lane
  missed := (k.counts _).trans h.missed
  reports hs := (h.reports hs).keeps k
  quiet hs := by
    rw [k.cam]
    exact h.quiet hs

theorem Closes.toothCam {c : Cam} {s u : State} {ws : List Window} {n : Nat} (h : Closes c s ws n u) :
    ToothCam c s ws n (s.cam c) u := ⟨h.lane, h.missed, h.reports, fun hs => (h.quiet hs).1⟩

theorem State.missed_camRelation (c : Cam) :
    CamRelation c fun s u => u.counters.get (.ofCam c .missed) = s.counters.get (.ofCam c .missed) where
  refl _ := rfl
  trans h k := k.trans h
  setCam _ _ := rfl
  reportFault s cause := by
    cases h : s.enabled c with
    | false => rw [State.reportFault_of_disabled h]
    | true => rw [State.reportFault_eq h, State.reported_missed]

theorem State.cycleMark_of_fault {s : State} {c : Cam} (h : (s.cam c).phaser.state = .fault) : s.cycleMark c = s := by
  unfold State.cycleMark
  rw [h]

/-- The mark finds a signalled cam in FAULT, and any other as it was but for the lane (R96). -/
theorem Closes.cycleMark {c : Cam} {s u : State} {ws : List Window} {n : Nat} (h : Closes c s ws n u) :
    ToothCam c s ws n ((s.cycleMark c).cam c) (u.cycleMark c) := by
  have missed := ((State.missed_camRelation c).cycleMark u).trans h.missed
  cases hs : signalled (s.cam c).lane.missRun (s.cfg c).missLimit n with
  | true =>
    have fault : (u.cam c).phaser.state = .fault := by
      rw [(h.reports hs).cam]
      exact s.reported_state c _
    rw [State.cycleMark_of_fault fault] at missed ⊢
    exact ⟨h.lane, missed, h.reports, fun hq => absurd (hs.symm.trans hq) nofun⟩
  | false =>
    have lane := h.lane
    rw [hs] at lane
    have cam := (h.apart hs).cycleMark (by rw [lane]; rfl) (by rw [lane])
    have kept : ((u.cycleMark c).cam c).lane = (u.cam c).lane := by rw [cam]
    refine ⟨kept.trans h.lane, missed, fun hq => absurd (hs.symm.trans hq) nofun, fun _ => ?_⟩
    rw [kept]
    exact cam

theorem Closes.markCams {c : Cam} {s u : State} {ws : List Window} {n : Nat} (h : Closes c s ws n u) :
    ToothCam c s ws n ((s.cycleMark c).cam c) u.markCams := by
  obtain ⟨v, before, after⟩ := State.eachCam_split u.countCycle.countLifetimes c (f := fun b x => x.cycleMark b)
    fun b hb x => (Beside.closeRelation hb).cycleMark x
  exact ((h.keeps ((Keeps.countLifetimes c u).trans before.keeps)).cycleMark).keeps after.keeps

end Sys2Proof.Machine

/-! ## A tooth taken in ENGINE_SYNC (R8, R9, R11, R17, R19, R36, R37; log 12) -/

namespace Sys2Proof.Machine

/-! ### The tracker through a tooth and its mark -/

/-- The angle of a tooth taken in ENGINE_SYNC (R9). -/
def toothAngle (g : GlobalItems) (k : Tooth) (y : Cycle) (t : Nat) (gap : Bool) : Nat :=
  (y.halfAfter gap).angle + (nextTooth g k t gap).position * g.pitchAngle

/-- A tooth that brings a cycle mark stands at angle 0 (R9, R11). -/
theorem toothAngle_of_mark {y : Cycle} (h : y.halfAfter true = .first) (g : GlobalItems) (k : Tooth) (t : Nat) :
    toothAngle g k y t true = 0 := by
  have position : (nextTooth g k t true).position * g.pitchAngle = 0 := Nat.zero_mul _
  rw [toothAngle, h, position]
  rfl

theorem State.closeTooth_tracker (s : State) (k : Tooth) (y : Cycle) (t : Nat) (gap : Bool) :
    (s.closeTooth k y t gap).tracker =
      ⟨.engineSync { nextTooth s.items.global k t gap with angle := toothAngle s.items.global k y t gap }
        { y with half := y.halfAfter gap, coveredFrom := toothAngle s.items.global k y t gap },
      engineSpeed s.items.global (nextTooth s.items.global k t gap).pitch⟩ :=
  (State.newPitch_camsMove _).tracker.trans (State.closeAll_camsMove (s.placeTooth k y t gap) _ _).tracker

theorem State.markCams_camsMove (s : State) : CamsMove s.countCycle.countLifetimes s.markCams :=
  CamsMove.eachCam fun c u => (u.cycleMark_localTo c).camsMove

theorem State.closeTooth_phaseLosses (s : State) (k : Tooth) (y : Cycle) (t : Nat) (gap : Bool) :
    (s.closeTooth k y t gap).counters.phaseLosses = s.counters.phaseLosses :=
  (KeepsDemands.closeTooth s k y t gap).counts .phaseLosses nofun

theorem State.markCams_tracker (s : State) : s.markCams.tracker = s.tracker :=
  s.markCams_camsMove.tracker.trans s.countCycle.countLifetimes_tracker

theorem State.markCams_items (s : State) : s.markCams.items = s.items :=
  s.markCams_camsMove.items.trans ((congrArg State.items s.countCycle.countLifetimes_within).trans rfl)

theorem State.markCams_phaseLosses (s : State) : s.markCams.counters.phaseLosses = s.counters.phaseLosses :=
  (s.markCams_keepsDemands.counts .phaseLosses nofun).trans
    ((s.countCycle.countLifetimes_get_ne (i := .phaseLosses) nofun).trans rfl)

/-! ### The tracker's close of a cycle -/

theorem State.closeCycle_speed (s : State) : s.closeCycle.tracker.speed = s.tracker.speed := by
  by_cases h : ∃ k y, s.tracker.sync = .engineSync k y
  · obtain ⟨k, y, hs⟩ := h
    by_cases hr : y.closedRun = 2
    · rw [State.closeCycle_of_loss hs hr, (State.loseSync_camsMove _).tracker]
      rfl
    · rw [State.closeCycle_of_kept hs hr]
      rfl
  · rw [State.closeCycle_of_none fun k y hk => h ⟨k, y, hk⟩]

theorem State.closeCycle_camCounter (s : State) (c : Cam) (i : CamCounter) :
    s.closeCycle.counters.get (.ofCam c i) = s.counters.get (.ofCam c i) := by
  by_cases h : ∃ k y, s.tracker.sync = .engineSync k y
  · obtain ⟨k, y, hs⟩ := h
    by_cases hr : y.closedRun = 2
    · rw [State.closeCycle_of_loss hs hr, State.loseSync_counters]
      exact Counters.get_put_ne s.counters (j := .ofCam c i) (i := .phaseLosses) nofun _
    · rw [State.closeCycle_of_kept hs hr]
      rfl
  · rw [State.closeCycle_of_none fun k y hk => h ⟨k, y, hk⟩]

/-- Phase is lost (R19). -/
theorem State.closeCycle_lost {s : State} {k : Tooth} {y : Cycle} (hs : s.tracker.sync = .engineSync k y)
    (hr : y.closedRun = 2) :
    s.closeCycle.tracker.sync = .crankSync { k with angle := k.angle % 5760 } ∧
      s.closeCycle.noticeSet .syncLost = true ∧
      s.closeCycle.counters.phaseLosses = counterNext s.items.global.counterWrap s.counters.phaseLosses := by
  rw [State.closeCycle_of_loss hs hr, (State.loseSync_camsMove _).tracker, State.loseSync_counters]
  exact ⟨rfl, (State.loseSync_steady _).notices _ ((s.count .phaseLosses).notify_set_self .syncLost), rfl⟩

/-- Where ENGINE_SYNC stays, the close of a cycle moves the tracker alone. -/
theorem Keeps.closeCycle {s : State} (c : Cam) (h : s.closeCycle.tracker.sync.isEngine = true) :
    Keeps c s s.closeCycle := by
  by_cases he : ∃ k y, s.tracker.sync = .engineSync k y
  · obtain ⟨k, y, hs⟩ := he
    by_cases hr : y.closedRun = 2
    · rw [(State.closeCycle_lost hs hr).1] at h
      cases h
    · rw [State.closeCycle_of_kept hs hr]
      exact .setTracker c s _ _
  · rw [State.closeCycle_of_none fun k y hk => he ⟨k, y, hk⟩]
    exact (Beside.refl c s).keeps

/-! ### A tooth -/

theorem State.engineTooth_speed (s : State) (k : Tooth) (y : Cycle) (t : Nat) (gap : Bool) :
    (s.engineTooth k y t gap).tracker.speed = engineSpeed s.items.global (nextTooth s.items.global k t gap).pitch := by
  have closed := congrArg Tracker.speed (s.closeTooth_tracker k y t gap)
  rw [State.engineTooth_eq]
  split
  · rw [State.issueMark_eq, State.closeCycle_speed, State.markCams_tracker]
    exact closed
  · exact closed

/-- A tooth that brings no cycle mark (R8, R9). -/
theorem State.engineTooth_between (s : State) (k : Tooth) {y : Cycle} (t : Nat) {gap : Bool}
    (h : ¬ (gap = true ∧ y.halfAfter gap = .first)) :
    (s.engineTooth k y t gap).tracker.sync =
        .engineSync { nextTooth s.items.global k t gap with angle := toothAngle s.items.global k y t gap }
          { y with half := y.halfAfter gap, coveredFrom := toothAngle s.items.global k y t gap } ∧
      (s.engineTooth k y t gap).counters.cycles = s.counters.cycles ∧
      (s.engineTooth k y t gap).counters.phaseLosses = s.counters.phaseLosses := by
  rw [State.engineTooth_eq, if_neg h]
  exact ⟨congrArg Tracker.sync (s.closeTooth_tracker k y t gap), (s.closeTooth_steady k y t gap).cycles,
    s.closeTooth_phaseLosses k y t gap⟩

/-- A tooth that brings a cycle mark: CYCLES counts it (R11), and the accounting of the cycle closes (R19). -/
theorem State.engineTooth_mark (s : State) (k : Tooth) {y : Cycle} (t : Nat) (h : y.halfAfter true = .first) :
    (s.engineTooth k y t true).counters.cycles = (s.counters.cycles + 1) % 4294967296 ∧
    if y.closedRun = 2 then
      (s.engineTooth k y t true).tracker.sync = .crankSync (nextTooth s.items.global k t true) ∧
      (s.engineTooth k y t true).noticeSet .syncLost = true ∧
      (s.engineTooth k y t true).counters.phaseLosses =
        counterNext s.items.global.counterWrap s.counters.phaseLosses
    else
      (s.engineTooth k y t true).tracker.sync = .engineSync (nextTooth s.items.global k t true)
        ⟨.first, 0, false, false, y.closedRun⟩ ∧
      (s.engineTooth k y t true).counters.phaseLosses = s.counters.phaseLosses := by
  have cycles := ((s.closeTooth_steady k y t true).countCycle.trans (State.issueMark_steady _)).cycles
  have sync := congrArg Tracker.sync ((State.markCams_tracker _).trans (s.closeTooth_tracker k y t true))
  have items := (State.markCams_items _).trans (s.closeTooth_items k y t true)
  have losses := (State.markCams_phaseLosses _).trans (s.closeTooth_phaseLosses k y t true)
  rw [toothAngle_of_mark h] at sync
  rw [State.engineTooth_eq, if_pos ⟨rfl, h⟩]
  refine ⟨cycles, ?_⟩
  rw [State.issueMark_eq]
  generalize (s.closeTooth k y t true).markCams = m at sync items losses ⊢
  split
  next hr =>
    obtain ⟨lost, noticed, counted⟩ := State.closeCycle_lost sync hr
    rw [items, losses] at counted
    exact ⟨lost, noticed, counted⟩
  next hr =>
    rw [State.closeCycle_of_kept sync hr]
    refine ⟨?_, losses⟩
    rw [h]
    rfl

/-- What a tooth makes of an enabled cam: its closes, and then the mark, if there is one (log 12). -/
theorem State.engineTooth_cam {c : Cam} {s u : State} (keeps : Keeps c s u) (he : s.enabled c = true)
    (hl : (s.cam c).lane.windows.length ≤ 4) (k : Tooth) (y : Cycle) (t : Nat) (gap : Bool) {ws : List Window} {n : Nat}
    {v : CamState}
    (hws : ws = ((s.cam c).lane.windows.map (Window.closed y.coveredFrom (toothAngle u.items.global k y t gap))).map
      fun w => { w with passed := false })
    (hn : n = (s.cam c).lane.windows.countP (Window.misses y.coveredFrom (toothAngle u.items.global k y t gap)))
    (hv : v = if gap = true ∧ y.halfAfter gap = .first then (s.cycleMark c).cam c else s.cam c) :
    (u.engineTooth k y t gap).counters.get (.ofCam c .missed) =
        Nat.repeat (counterNext s.items.global.counterWrap) n (s.counters.get (.ofCam c .missed)) ∧
      ((u.engineTooth k y t gap).tracker.sync.isEngine = true → ToothCam c s ws n v (u.engineTooth k y t gap)) := by
  obtain ⟨_, rfl, closed⟩ := Closes.closeTooth keeps he hl k y t gap
  subst hws hn hv
  rw [State.engineTooth_eq]
  split
  · have marked := closed.markCams
    rw [State.issueMark_eq, State.closeCycle_camCounter]
    exact ⟨marked.missed, fun hengine => marked.keeps (.closeCycle c hengine)⟩
  · exact ⟨closed.missed, fun _ => closed.toothCam⟩

end Sys2Proof.Machine

/-! ## O10 -/

namespace Sys2Proof.Machine

namespace ToothCam

variable {c : Cam} {s u : State} {ws : List Window} {n : Nat} {v : CamState} (h : ToothCam c s ws n v u)
include h

/-- The cam that SIGNAL was reported at, from the cam with its lane as the tooth left it. -/
theorem reported (hs : signalled (s.cam c).lane.missRun (s.cfg c).missLimit n = true) :
    u.cam c = (({ s with cams := s.cams.set c { s.cam c with lane := (u.cam c).lane } }).reported c .signal).cam c := by
  have apart : LaneApart c s { s with cams := s.cams.set c { s.cam c with lane := (u.cam c).lane } } := ⟨by
    rw [State.cam_of_set], rfl, rfl⟩
  rw [apart.reported, State.cam_of_set]
  exact (h.reports hs).cam

theorem parts (hs : signalled (s.cam c).lane.missRun (s.cfg c).missLimit n = false) :
    (u.cam c).phaser = v.phaser ∧ (u.cam c).loop = v.loop ∧ (u.cam c).channel = v.channel ∧
      (u.cam c).arbiter = v.arbiter := by
  rw [h.quiet hs]
  exact ⟨rfl, rfl, rfl, rfl⟩

end ToothCam

/-- A window after a tooth's closes, the new pitch begun (R17, R36). -/
theorem Window.closed_passed (old new : Nat) (w : Window) :
    { w.closed old new with passed := false } =
      if w.closes old new = true then { w with hit := false, late := false, passed := false }
      else { w with passed := false } := by
  unfold Window.closed
  split <;> rfl

theorem map_closed_passed (old new : Nat) (ws : List Window) :
    ((ws.map (Window.closed old new)).map fun w => { w with passed := false }) =
      ws.map fun w => if w.closes old new = true then { w with hit := false, late := false, passed := false }
        else { w with passed := false } := by
  rw [List.map_map]
  exact List.map_congr_left fun w _ => w.closed_passed old new

theorem nextTooth_placed (g : GlobalItems) (k : Tooth) (y : Cycle) (t : Nat) (gap : Bool) :
    { nextTooth g k t gap with angle := toothAngle g k y t gap } =
      ({ lastTooth := t, period := toothPeriod k.lastTooth t,
         pitch := if gap then toothPeriod k.lastTooth t / (g.missing + 1) else toothPeriod k.lastTooth t,
         prevPitch := k.pitch, position := if gap then 0 else k.position + 1,
         angle := (y.halfAfter gap).angle + if gap then 0 else (k.position + 1) * (5760 / g.teeth) } : Tooth) := by
  cases gap with
  | false => rfl
  | true =>
    have position : (nextTooth g k t true).position * g.pitchAngle = 0 := Nat.zero_mul _
    rw [toothAngle, position]
    rfl

/-- Settles O10: the tooth's closes cam by cam, then its mark, and the tracker's close of the cycle last (log 12). -/
theorem engineSyncToothIsTaken : Obligations.EngineSyncToothIsTaken := by
  intro t s k y gap half n run closing ht hm hs accepted hgap agrees hhalf hn hrun hclosing
  have gap_eq : gapAfter s.items.global k t = gap := hgap.symm
  have due : gapAfter s.items.global k t = gapDue s.items.global k := (gapAfter_eq_gapDue_iff _ _ _).2 (by
    rw [← hgap]
    exact agrees)
  have half_eq : half = y.halfAfter gap := by
    rw [hhalf]
    cases gap with
    | false => rfl
    | true => cases hy : y.half <;> rw [Cycle.halfAfter, if_pos rfl, hy] <;> rfl
  have tooth : n = { nextTooth s.items.global k t gap with angle := toothAngle s.items.global k y t gap } := by
    rw [nextTooth_placed, hn, half_eq]
    cases y.halfAfter gap <;> rfl
  have run_eq : run = y.closedRun := by
    rw [hrun, Cycle.closedRun]
    cases y.mismatch <;> cases y.refHit <;> rfl
  have closing_eq : closing = Window.closes y.coveredFrom (toothAngle s.items.global k y t gap) := funext fun w => by
    rw [Bool.eq_iff_iff, hclosing, tooth, Window.closes, Bool.and_eq_true, Bool.not_eq_true']
  have speed := State.engineTooth_speed { s with now := t } k y t gap
  have cams := fun (c : Cam) (he : s.enabled c = true) (hl : (s.cam c).lane.windows.length ≤ 4) =>
    State.engineTooth_cam (c := c) (s := s) (u := { s with now := t }) ⟨rfl, rfl, rfl, id, fun _ h => h, fun _ => rfl⟩
      he hl k y t gap rfl rfl rfl
  have between := State.engineTooth_between { s with now := t } k (y := y) t (gap := gap)
  have marks := State.engineTooth_mark { s with now := t } k (y := y) t
  rw [exec_crkEdge_of_run ht hm rfl, State.crankEdge_of_engineSync (s := { s with now := t }) accepted hs, if_pos due,
    show gapAfter _ k t = gap from gap_eq]
  clear hclosing hgap hrun hn hhalf
  subst half_eq run_eq closing_eq tooth
  refine ⟨_, rfl, fun hp => ?_, fun c l missed signal v he hl hlen hmissed hsignal hv => ?_, ?_⟩
  · rw [speed]
    exact engineSpeed_of_pitch _ hp
  · subst hl hmissed hsignal hv
    obtain ⟨counted, moved⟩ := cams c he hlen
    refine ⟨counted, fun hengine => ?_⟩
    have cam := moved hengine
    refine ⟨?_, fun hs => ?_, cam.parts⟩
    · rw [cam.lane, map_closed_passed]
      rfl
    · obtain ⟨-, pending, notice, faults⟩ := cam.reports hs
      exact ⟨cam.reported hs, pending, notice, faults⟩
  · split
    next mark =>
      obtain ⟨rfl, first⟩ := mark
      rw [toothAngle_of_mark first]
      exact marks first
    next unmarked => exact between unmarked

end Sys2Proof.Machine
